-- ==== Sys2Proof/Word.lean ====
section
/-! DEFINITION. The word of the block and its one-bit flag (10_state.md R23, R27). -/

namespace Sys2Proof

/-- `Word32`: an unsigned 32-bit integer with arithmetic modulo 2^32 (R27); bit 0 is the least significant (R11). -/
abbrev Word32 := BitVec 32

/-- `CarryFlag`: a single bit, an input and an output of requests and never stored (R23). -/
abbrev Carry := Bool

end Sys2Proof
end

