-- ==== Sys2Proof/Syntax.lean ====
section
/-! DEFINITION. The request as it stands on the block's input (10_state.md R31), and the instructions: one constructor for
each row of spec/opcode_table.json (30_encoding.md R72). -/

namespace Sys2Proof

/-- `ShiftKind`: the closed enumeration of the five shift operations (10_state.md R28). -/
inductive ShiftKind where
  | lsl
  | lsr
  | asr
  | ror
  | rrx
  deriving DecidableEq, Repr

/-- The causes of the one failure `InvalidEncoding` (60_exceptions.md R156). The code 0, NONE, is the absence of a cause. -/
inductive Cause where
  | badShiftType
  | badBitRange
  | rrxAmount
  | amountRange
  | fieldRange
  | badKind
  | unknownOp
  deriving DecidableEq, Repr

/-- A field pattern of spec/opcode_table.json presented by itself: the bits that the rows of one format other than REQ
match. DESIGN CHOICE (log entry 8): the spec's block has no such request; it makes those rows instructions of their own. -/
inductive FieldPattern where
  /-- Format KIND: the three bits of the `kind` port (R57). -/
  | kind (code : BitVec 3)
  /-- Format SHIFT_IMM_SEL: `typeCode[1:0] :: imm5[4:0]` (R58). -/
  | shiftImmSel (selector : BitVec 7)
  /-- Format SHIFT_REG_SEL: `typeCode[1:0]` (R59). -/
  | shiftRegSel (selector : BitVec 2)
  /-- Format IMM12_A (R60). -/
  | imm12A (field12 : BitVec 12)
  /-- Format IMM12_B (R61). -/
  | imm12B (field12 : BitVec 12)
  /-- Format WORD_IMM12_GATHER (R62). -/
  | wordGather (word : Word32)
  /-- Format WORD_IMM7 with `IMM7_LSB` = 0 (R63). -/
  | wordImm7 (word : Word32)
  deriving DecidableEq, Repr

/-- A request: the input ports of R31, presented together. `pattern` is the model's own: with `none` the request is the
spec's, selected by `op` (format REQ); with a pattern, that pattern is what is decoded (log entry 8). -/
structure Request where
  op : BitVec 4
  value : Word32
  typeCode : Word32
  imm5 : Word32
  kind : BitVec 3
  amount : Word32
  carryIn : Carry
  field12 : Word32
  highBit : Word32
  lowBit : Word32
  regNum : Word32
  pattern : Option FieldPattern
  deriving DecidableEq, Repr

/-- The instructions, a constructor for each row of the table, with the operands it reads and no others (R31, R55). -/
inductive Instr where
  -- Format REQ (R55, R56)
  /-- `op` 0x0, R85. -/
  | decodeImmShift (typeCode imm5 : Word32)
  /-- `op` 0x1, R86. -/
  | decodeRegShift (typeCode : Word32)
  /-- `op` 0x2, R95. -/
  | applyShiftWithCarry (value : Word32) (kind : BitVec 3) (amount : Word32) (carryIn : Carry)
  /-- `op` 0x3, R102. -/
  | applyShift (value : Word32) (kind : BitVec 3) (amount : Word32) (carryIn : Carry)
  /-- `op` 0x4, R115. -/
  | expandImmediateA (field12 : Word32) (carryIn : Carry)
  /-- `op` 0x5, R116. -/
  | expandImmediateB (field12 : Word32) (carryIn : Carry)
  /-- `op` 0x6, R130. -/
  | zeroExtendScatteredImmediate12 (word : Word32)
  /-- `op` 0x7, R131. -/
  | scaledImmediate7 (word : Word32)
  /-- `op` 0x8, R137. -/
  | extractBits (value highBit lowBit : Word32)
  /-- `op` 0x9, R139; the index is on the port `high_bit`. -/
  | extractBit (value bitIndex : Word32)
  /-- `op` 0xA, R140. -/
  | isRestrictedRegister (regNum : Word32)
  /-- `op` 0xB, R56. -/
  | unknownOpB
  /-- `op` 0xC, R56. -/
  | unknownOpC
  /-- `op` 0xD, R56. -/
  | unknownOpD
  /-- `op` 0xE, R56. -/
  | unknownOpE
  /-- `op` 0xF, R56. -/
  | unknownOpF
  -- Format KIND (R57)
  /-- `kind` 0b000, R97. -/
  | kindLsl (value amount : Word32) (carryIn : Carry)
  /-- `kind` 0b001, R98. -/
  | kindLsr (value amount : Word32) (carryIn : Carry)
  /-- `kind` 0b010, R99. -/
  | kindAsr (value amount : Word32) (carryIn : Carry)
  /-- `kind` 0b011, R100. -/
  | kindRor (value amount : Word32) (carryIn : Carry)
  /-- `kind` 0b100, R101. -/
  | kindRrx (value amount : Word32) (carryIn : Carry)
  /-- `kind` 0b101, R57. -/
  | badKind5
  /-- `kind` 0b110, R57. -/
  | badKind6
  /-- `kind` 0b111, R57. -/
  | badKind7
  -- Format SHIFT_IMM_SEL (R58)
  /-- `00iiiii`. -/
  | selLslImm (imm5 : BitVec 5)
  /-- `0100000`. -/
  | selLsr32
  /-- `01iiiii`, `imm5` not 0. -/
  | selLsrImm (imm5 : BitVec 5)
  /-- `1000000`. -/
  | selAsr32
  /-- `10iiiii`, `imm5` not 0. -/
  | selAsrImm (imm5 : BitVec 5)
  /-- `1100000`. -/
  | selRrx
  /-- `11iiiii`, `imm5` not 0. -/
  | selRorImm (imm5 : BitVec 5)
  -- Format SHIFT_REG_SEL (R59)
  /-- `00`. -/
  | selLslReg
  /-- `01`. -/
  | selLsrReg
  /-- `10`. -/
  | selAsrReg
  /-- `11`. -/
  | selRorReg
  -- Format IMM12_A (R60)
  /-- `0000bbbbbbbb`. -/
  | immAUnrotated (imm : BitVec 8) (carryIn : Carry)
  /-- `rrrrbbbbbbbb`, `rotateSelector` not 0. -/
  | immARotated (rotateSelector : BitVec 4) (imm : BitVec 8)
  -- Format IMM12_B (R61)
  /-- `0000bbbbbbbb`. -/
  | immBPlain (byte : BitVec 8) (carryIn : Carry)
  /-- `0001bbbbbbbb`. -/
  | immBEven (byte : BitVec 8) (carryIn : Carry)
  /-- `0010bbbbbbbb`. -/
  | immBOdd (byte : BitVec 8) (carryIn : Carry)
  /-- `0011bbbbbbbb`. -/
  | immBAll (byte : BitVec 8) (carryIn : Carry)
  /-- `01rrrbbbbbbb`: `rotateAmount` 8..15. -/
  | immBRotated8 (rotateAmount : BitVec 5) (low7 : BitVec 7)
  /-- `10rrrbbbbbbb`: `rotateAmount` 16..23. -/
  | immBRotated16 (rotateAmount : BitVec 5) (low7 : BitVec 7)
  /-- `11rrrbbbbbbb`: `rotateAmount` 24..31. -/
  | immBRotated24 (rotateAmount : BitVec 5) (low7 : BitVec 7)
  -- Format WORD_IMM12_GATHER (R62) and WORD_IMM7 (R63)
  /-- `-----i-----------iii----bbbbbbbb`; the bits the helper does not read are no part of the instruction. -/
  | gatherWord (i : BitVec 1) (imm3 : BitVec 3) (byte : BitVec 8)
  /-- `-------------------------iiiiiii`. -/
  | imm7Word (imm7 : BitVec 7)
  deriving DecidableEq, Repr

end Sys2Proof
end

