-- ==== Sys2Proof/WellFormed.lean ====
section
/-! DEFINITION. The side conditions of the table's rows that the types of Instr do not express (30_encoding.md R58, R60,
R61, R72). Values outside an operation's documented domain are NOT ill-formed: they are requests that fail (R67). -/

namespace Sys2Proof

/-- An immediate other than 0: the condition of the `imm5 != 0` rows (R58). -/
def immediateNonzero (imm5 : BitVec 5) : Bool := imm5 != 0#5

/-- A rotate amount of encoding B with the two top bits its row fixes (R61). -/
def rotateInRow (rotateAmount : BitVec 5) (top2 : BitVec 2) : Bool := rotateAmount.extractLsb' 3 2 == top2

/-- An instruction is well formed when it meets its row's side condition. -/
def Instr.wf : Instr → Bool
  | .decodeImmShift _ _ => true
  | .decodeRegShift _ => true
  | .applyShiftWithCarry _ _ _ _ => true
  | .applyShift _ _ _ _ => true
  | .expandImmediateA _ _ => true
  | .expandImmediateB _ _ => true
  | .zeroExtendScatteredImmediate12 _ => true
  | .scaledImmediate7 _ => true
  | .extractBits _ _ _ => true
  | .extractBit _ _ => true
  | .isRestrictedRegister _ => true
  | .unknownOpB => true
  | .unknownOpC => true
  | .unknownOpD => true
  | .unknownOpE => true
  | .unknownOpF => true
  | .kindLsl _ _ _ => true
  | .kindLsr _ _ _ => true
  | .kindAsr _ _ _ => true
  | .kindRor _ _ _ => true
  | .kindRrx _ _ _ => true
  | .badKind5 => true
  | .badKind6 => true
  | .badKind7 => true
  | .selLslImm _ => true
  | .selLsr32 => true
  | .selLsrImm imm5 => immediateNonzero imm5
  | .selAsr32 => true
  | .selAsrImm imm5 => immediateNonzero imm5
  | .selRrx => true
  | .selRorImm imm5 => immediateNonzero imm5
  | .selLslReg => true
  | .selLsrReg => true
  | .selAsrReg => true
  | .selRorReg => true
  | .immAUnrotated _ _ => true
  | .immARotated rotateSelector _ => rotateSelector != 0#4
  | .immBPlain _ _ => true
  | .immBEven _ _ => true
  | .immBOdd _ _ => true
  | .immBAll _ _ => true
  | .immBRotated8 rotateAmount _ => rotateInRow rotateAmount 0b01#2
  | .immBRotated16 rotateAmount _ => rotateInRow rotateAmount 0b10#2
  | .immBRotated24 rotateAmount _ => rotateInRow rotateAmount 0b11#2
  | .gatherWord _ _ _ => true
  | .imm7Word _ => true

end Sys2Proof
end

