-- ==== Sys2Proof/Decode.lean ====
section
/-! DEFINITION. Decoding a request into an instruction, encoding an instruction as a request, and reading a word of
spec/opcode_table.json (30_encoding.md R55 to R63, R72). Every request decodes: the ports have exact widths, all op codes,
kind codes and field patterns are assigned (R56 to R61), and out-of-domain operands are answered by their operation (R67). -/

namespace Sys2Proof

/-- A request with every port at 0 and no pattern. -/
def Request.idle : Request where
  op := 0
  value := 0
  typeCode := 0
  imm5 := 0
  kind := 0
  amount := 0
  carryIn := false
  field12 := 0
  highBit := 0
  lowBit := 0
  regNum := 0
  pattern := none

/-- Format REQ: the `op` code selects the operation and its ports (R55, R56). -/
def decodeOp (r : Request) : Instr :=
  match r.op.toNat with
  | 0x0 => .decodeImmShift r.typeCode r.imm5
  | 0x1 => .decodeRegShift r.typeCode
  | 0x2 => .applyShiftWithCarry r.value r.kind r.amount r.carryIn
  | 0x3 => .applyShift r.value r.kind r.amount r.carryIn
  | 0x4 => .expandImmediateA r.field12 r.carryIn
  | 0x5 => .expandImmediateB r.field12 r.carryIn
  | 0x6 => .zeroExtendScatteredImmediate12 r.value
  | 0x7 => .scaledImmediate7 r.value
  | 0x8 => .extractBits r.value r.highBit r.lowBit
  | 0x9 => .extractBit r.value r.highBit
  | 0xA => .isRestrictedRegister r.regNum
  | 0xB => .unknownOpB
  | 0xC => .unknownOpC
  | 0xD => .unknownOpD
  | 0xE => .unknownOpE
  | _ => .unknownOpF -- 0xF, the only code of four bits that is left

/-- Format KIND: the three bits of the `kind` port; the unit's operands are on the ports (R57). -/
def decodeKind (code : BitVec 3) (r : Request) : Instr :=
  match code with
  | 0b000 => .kindLsl r.value r.amount r.carryIn
  | 0b001 => .kindLsr r.value r.amount r.carryIn
  | 0b010 => .kindAsr r.value r.amount r.carryIn
  | 0b011 => .kindRor r.value r.amount r.carryIn
  | 0b100 => .kindRrx r.value r.amount r.carryIn
  | 0b101 => .badKind5
  | 0b110 => .badKind6
  | 0b111 => .badKind7

/-- Format SHIFT_IMM_SEL: `typeCode` is bits 6..5 and `imm5` bits 4..0; an exact row takes precedence (R58, R72). -/
def decodeShiftImmSel (selector : BitVec 7) : Instr :=
  let imm5 := selector.extractLsb' 0 5
  match selector.extractLsb' 5 2 with
  | 0 => .selLslImm imm5
  | 1 => if imm5 = 0#5 then .selLsr32 else .selLsrImm imm5
  | 2 => if imm5 = 0#5 then .selAsr32 else .selAsrImm imm5
  | 3 => if imm5 = 0#5 then .selRrx else .selRorImm imm5

/-- Format SHIFT_REG_SEL (R59). -/
def decodeShiftRegSel (selector : BitVec 2) : Instr :=
  match selector with
  | 0 => .selLslReg
  | 1 => .selLsrReg
  | 2 => .selAsrReg
  | 3 => .selRorReg

/-- Format IMM12_A: `rotateSelector` is bits 11..8 and `imm` bits 7..0 (R60). -/
def decodeImm12A (field12 : BitVec 12) (carryIn : Carry) : Instr :=
  let rotateSelector := field12.extractLsb' 8 4
  let imm := field12.extractLsb' 0 8
  if rotateSelector = 0#4 then .immAUnrotated imm carryIn else .immARotated rotateSelector imm

/-- The replicated forms of IMM12_B: `selector2` is bits 9..8 and `byte` bits 7..0 (R61). -/
def decodeImm12BReplicated (field12 : BitVec 12) (carryIn : Carry) : Instr :=
  let byte := field12.extractLsb' 0 8
  match field12.extractLsb' 8 2 with
  | 0 => .immBPlain byte carryIn
  | 1 => .immBEven byte carryIn
  | 2 => .immBOdd byte carryIn
  | 3 => .immBAll byte carryIn

/-- Format IMM12_B: `top2`, bits 11..10, selects the form; the rotated forms read `rotateAmount`, bits 11..7, and bits
6..0 (R61). -/
def decodeImm12B (field12 : BitVec 12) (carryIn : Carry) : Instr :=
  let rotateAmount := field12.extractLsb' 7 5
  let low7 := field12.extractLsb' 0 7
  match field12.extractLsb' 10 2 with
  | 0 => decodeImm12BReplicated field12 carryIn
  | 1 => .immBRotated8 rotateAmount low7
  | 2 => .immBRotated16 rotateAmount low7
  | 3 => .immBRotated24 rotateAmount low7

/-- A field pattern presented by itself (R72, log entry 8). -/
def decodePattern (p : FieldPattern) (r : Request) : Instr :=
  match p with
  | .kind code => decodeKind code r
  | .shiftImmSel selector => decodeShiftImmSel selector
  | .shiftRegSel selector => decodeShiftRegSel selector
  | .imm12A field12 => decodeImm12A field12 r.carryIn
  | .imm12B field12 => decodeImm12B field12 r.carryIn
  | .wordGather word => .gatherWord (word.extractLsb' 26 1) (word.extractLsb' 12 3) (word.extractLsb' 0 8)
  | .wordImm7 word => .imm7Word (word.extractLsb' 0 7)

/-- The instruction a request presents. -/
def decode (r : Request) : Instr :=
  match r.pattern with
  | none => decodeOp r
  | some p => decodePattern p r

/-- A request for one pattern, every other port at 0. -/
def Request.ofPattern (p : FieldPattern) : Request := { Request.idle with pattern := some p }

/-- A KIND pattern with the operands of the unit. -/
def Request.ofKind (code : BitVec 3) (value amount : Word32) (carryIn : Carry) : Request :=
  { Request.idle with pattern := some (.kind code), value := value, amount := amount, carryIn := carryIn }

/-- The word of format WORD_IMM12_GATHER with every unread bit 0 (R62). -/
def gatherWordBits (i : BitVec 1) (imm3 : BitVec 3) (byte : BitVec 8) : Word32 :=
  0#5 ++ i ++ 0#11 ++ imm3 ++ 0#4 ++ byte

/-- The request that presents an instruction: its operands on the ports of R55 or in the pattern of R57 to R63, every port
that is not read at 0. -/
def encode : Instr → Request
  | .decodeImmShift typeCode imm5 => { Request.idle with op := 0x0, typeCode := typeCode, imm5 := imm5 }
  | .decodeRegShift typeCode => { Request.idle with op := 0x1, typeCode := typeCode }
  | .applyShiftWithCarry value kind amount carryIn =>
    { Request.idle with op := 0x2, value := value, kind := kind, amount := amount, carryIn := carryIn }
  | .applyShift value kind amount carryIn =>
    { Request.idle with op := 0x3, value := value, kind := kind, amount := amount, carryIn := carryIn }
  | .expandImmediateA field12 carryIn => { Request.idle with op := 0x4, field12 := field12, carryIn := carryIn }
  | .expandImmediateB field12 carryIn => { Request.idle with op := 0x5, field12 := field12, carryIn := carryIn }
  | .zeroExtendScatteredImmediate12 word => { Request.idle with op := 0x6, value := word }
  | .scaledImmediate7 word => { Request.idle with op := 0x7, value := word }
  | .extractBits value highBit lowBit =>
    { Request.idle with op := 0x8, value := value, highBit := highBit, lowBit := lowBit }
  | .extractBit value bitIndex => { Request.idle with op := 0x9, value := value, highBit := bitIndex }
  | .isRestrictedRegister regNum => { Request.idle with op := 0xA, regNum := regNum }
  | .unknownOpB => { Request.idle with op := 0xB }
  | .unknownOpC => { Request.idle with op := 0xC }
  | .unknownOpD => { Request.idle with op := 0xD }
  | .unknownOpE => { Request.idle with op := 0xE }
  | .unknownOpF => { Request.idle with op := 0xF }
  | .kindLsl value amount carryIn => Request.ofKind 0b000 value amount carryIn
  | .kindLsr value amount carryIn => Request.ofKind 0b001 value amount carryIn
  | .kindAsr value amount carryIn => Request.ofKind 0b010 value amount carryIn
  | .kindRor value amount carryIn => Request.ofKind 0b011 value amount carryIn
  | .kindRrx value amount carryIn => Request.ofKind 0b100 value amount carryIn
  | .badKind5 => Request.ofKind 0b101 0 0 false
  | .badKind6 => Request.ofKind 0b110 0 0 false
  | .badKind7 => Request.ofKind 0b111 0 0 false
  | .selLslImm imm5 => Request.ofPattern (.shiftImmSel (0b00#2 ++ imm5))
  | .selLsr32 => Request.ofPattern (.shiftImmSel 0b0100000#7)
  | .selLsrImm imm5 => Request.ofPattern (.shiftImmSel (0b01#2 ++ imm5))
  | .selAsr32 => Request.ofPattern (.shiftImmSel 0b1000000#7)
  | .selAsrImm imm5 => Request.ofPattern (.shiftImmSel (0b10#2 ++ imm5))
  | .selRrx => Request.ofPattern (.shiftImmSel 0b1100000#7)
  | .selRorImm imm5 => Request.ofPattern (.shiftImmSel (0b11#2 ++ imm5))
  | .selLslReg => Request.ofPattern (.shiftRegSel 0b00#2)
  | .selLsrReg => Request.ofPattern (.shiftRegSel 0b01#2)
  | .selAsrReg => Request.ofPattern (.shiftRegSel 0b10#2)
  | .selRorReg => Request.ofPattern (.shiftRegSel 0b11#2)
  | .immAUnrotated imm carryIn => { Request.ofPattern (.imm12A (0b0000#4 ++ imm)) with carryIn := carryIn }
  | .immARotated rotateSelector imm => Request.ofPattern (.imm12A (rotateSelector ++ imm))
  | .immBPlain byte carryIn => { Request.ofPattern (.imm12B (0b0000#4 ++ byte)) with carryIn := carryIn }
  | .immBEven byte carryIn => { Request.ofPattern (.imm12B (0b0001#4 ++ byte)) with carryIn := carryIn }
  | .immBOdd byte carryIn => { Request.ofPattern (.imm12B (0b0010#4 ++ byte)) with carryIn := carryIn }
  | .immBAll byte carryIn => { Request.ofPattern (.imm12B (0b0011#4 ++ byte)) with carryIn := carryIn }
  | .immBRotated8 rotateAmount low7 => Request.ofPattern (.imm12B (rotateAmount ++ low7))
  | .immBRotated16 rotateAmount low7 => Request.ofPattern (.imm12B (rotateAmount ++ low7))
  | .immBRotated24 rotateAmount low7 => Request.ofPattern (.imm12B (rotateAmount ++ low7))
  | .gatherWord i imm3 byte => Request.ofPattern (.wordGather (gatherWordBits i imm3 byte))
  | .imm7Word imm7 => Request.ofPattern (.wordImm7 (0#25 ++ imm7))

/-- Why a table word is no request. -/
inductive TableWordReject where
  /-- The word has a bit above those of the widest field its length can hold. -/
  | bitsOutsideTheFields
  /-- No row of the table is longer than 32 bits. -/
  | tooLong
  deriving DecidableEq, Repr

/-- The request a word of the table stands for. DESIGN CHOICE (log entry 10): the table's words name no port, so the length
says which: up to 8 bits, the 4-bit `op` code where the value fits it (R55) and otherwise the 7-bit selector (R58); up to
16 bits, the 12 bits of encoding B (R61); up to 32 bits, the word of the gather (R62). Every other port is 0. -/
def requestOfTableWord (nbits w : Nat) : Except TableWordReject Request :=
  if nbits ≤ 8 then
    if w < 16 then .ok { Request.idle with op := BitVec.ofNat 4 w }
    else if w < 128 then .ok (Request.ofPattern (.shiftImmSel (BitVec.ofNat 7 w)))
    else .error .bitsOutsideTheFields
  else if nbits ≤ 16 then
    if w < 4096 then .ok (Request.ofPattern (.imm12B (BitVec.ofNat 12 w))) else .error .bitsOutsideTheFields
  else if nbits ≤ 32 then
    if w < 4294967296 then .ok (Request.ofPattern (.wordGather (BitVec.ofNat 32 w)))
    else .error .bitsOutsideTheFields
  else .error .tooLong

/-- The instruction the decoder reads from a table word; none where the word is no request. -/
def decodeTableWord (nbits w : Nat) : Option Instr :=
  match requestOfTableWord nbits w with
  | .ok r => some (decode r)
  | .error _ => none

end Sys2Proof
end

