-- ==== Sys2Proof/Config.lean ====
section
/-! DEFINITION. What the spec leaves open: the value on an output port that a response does not drive (10_state.md R33),
one constant without a body for each data port, and the recommended value of the one parameter (00_scope.md R10). -/

namespace Sys2Proof.Config

/-- What `result` holds where the response does not drive it. DESIGN CHOICE (log entry 6): a free value for each
response, so nothing can be proved of it (R33). -/
opaque freeResult : Nat → Word32

/-- What `carry_out` holds where the response does not drive it. DESIGN CHOICE (log entry 6). -/
opaque freeCarryOut : Nat → Carry

/-- What `kind_out` holds where the response does not drive it. DESIGN CHOICE (log entry 6). -/
opaque freeKindOut : Nat → BitVec 3

/-- What `amount_out` holds where the response does not drive it. DESIGN CHOICE (log entry 6). -/
opaque freeAmountOut : Nat → Word32

/-- The value 30_encoding.md R63 recommends for the open parameter `IMM7_LSB`. -/
def recommendedImm7Lsb : Fin 26 := 0

end Sys2Proof.Config
end

