-- ==== Sys2Proof/Machine/State.lean ====
section
/-! DEFINITION. What stands at the boundary of the block: the request on its input ports, the build-time parameter, the
response on its output ports (10_state.md R31, R32), and the counter of the model's free values. The block itself holds no
state (R20): no field here is read by a later request but the parameter and the counter. -/

namespace Sys2Proof.Machine

/-- The output ports of R32. Which of the data ports `result`, `carryOut`, `kindOut` and `amountOut` may be read is R33. -/
structure Response where
  /-- 1 when the request failed with `InvalidEncoding`. -/
  err : Bool
  /-- The cause code of R156; 0 when `err` = 0. -/
  errCause : BitVec 3
  result : Word32
  carryOut : Carry
  kindOut : BitVec 3
  amountOut : Word32
  deriving DecidableEq, Repr

/-- The state of a step. -/
structure State where
  /-- The request the caller presents (R31). -/
  inp : Request
  /-- `IMM7_LSB`, 0..25, fixed before use and never changed (30_encoding.md R63, 70_reset_and_hazards.md R177). -/
  imm7Lsb : Fin 26
  /-- The response (R32). -/
  out : Response
  /-- The model's own: how many responses have been given, so that each takes fresh free values (log entry 6). -/
  freeCount : Nat
  deriving DecidableEq, Repr

/-- Why a step stops with a fault. There is none: every request gets a response and the block has no stuck state
(70_reset_and_hazards.md R183); `InvalidEncoding` is a response (60_exceptions.md R160, R161, log entry 7). Safe. -/
inductive Fault where
  deriving DecidableEq, Repr

/-- Why a step has no meaning. -/
inductive Refusal where
  /-- Raised by an arm of exec whose instruction has no meaning yet. Safe. No arm raises it. -/
  | notModelled (mnemonic : String)
  deriving DecidableEq, Repr

/-- What one step answers. -/
abbrev StepOutcome := Host.Outcome State Fault Refusal

/-- Right after reset. The spec has no state and no reset value (R34). The caller's ports are all 0 (DESIGN CHOICE, log
entry 3), `IMM7_LSB` is the recommended 0 (DESIGN CHOICE, log entry 5), and the driven outputs are the function of those
inputs (R175): `DecodeImmShift(0, 0) = (LSL, 0)`, no failure. `result` and `carry_out`, which that request does not drive,
are 0 (DESIGN CHOICE, log entry 4). -/
def State.reset : State where
  inp :=
    { op := 0, value := 0, typeCode := 0, imm5 := 0, kind := 0, amount := 0, carryIn := false, field12 := 0
      highBit := 0, lowBit := 0, regNum := 0, pattern := none }
  imm7Lsb := Config.recommendedImm7Lsb
  out := { err := false, errCause := 0, result := 0, carryOut := false, kindOut := 0, amountOut := 0 }
  freeCount := 0

end Sys2Proof.Machine
end

