-- ==== Sys2Proof/Machine/Operands.lean ====
section
/-! DEFINITION. The operand forms: port codes of shift kinds and causes (30_encoding.md R57, 60_exceptions.md R156), slices of
an operand's integer value, rotation and byte replication (00_scope.md R12, 20_memory.md R41). -/

namespace Sys2Proof.Machine

/-- The 3-bit code of a shift kind on the ports `kind` and `kind_out` (R57). -/
def kindCode : ShiftKind → BitVec 3
  | .lsl => 0b000
  | .lsr => 0b001
  | .asr => 0b010
  | .ror => 0b011
  | .rrx => 0b100

/-- The shift kind a `kind` port code names; the codes 5, 6 and 7 name none (R57). -/
def kindOfCode (code : BitVec 3) : Option ShiftKind :=
  match code with
  | 0b000 => some .lsl
  | 0b001 => some .lsr
  | 0b010 => some .asr
  | 0b011 => some .ror
  | 0b100 => some .rrx
  | 0b101 => none
  | 0b110 => none
  | 0b111 => none

/-- The code of a cause on `err_cause` (R156). -/
def causeCode : Cause → BitVec 3
  | .badShiftType => 1
  | .badBitRange => 2
  | .rrxAmount => 3
  | .amountRange => 4
  | .fieldRange => 5
  | .badKind => 6
  | .unknownOp => 7

/-- `v[hi:lo]` on the integer value of an operand, right-justified (R12). -/
def slice (v hi lo : Nat) : Nat := v / 2 ^ lo % 2 ^ (hi - lo + 1)

/-- `ROR32(x, n)` for `n` in 0..31 (R12). -/
def ror32 (x : Word32) (n : Nat) : Word32 := if n = 0 then x else (x >>> n) ||| (x <<< (32 - n))

/-- `zext_32` of an 8-bit operand given as its integer value (R12). -/
def zext32 (v : Nat) : Word32 := BitVec.ofNat 32 v

/-- `sext_64` of a word (R12). -/
def sext64 (v : Word32) : BitVec 64 := v.signExtend 64

/-- The pattern `0x00XX00XX`: the byte in bytes 2 and 0 (R116). -/
def replicateEven (byte : Word32) : Word32 := (byte <<< 16) ||| byte

/-- The pattern `0xXX00XX00`: the byte in bytes 3 and 1 (R116). -/
def replicateOdd (byte : Word32) : Word32 := (byte <<< 24) ||| (byte <<< 8)

/-- The pattern `0xXXXXXXXX`: the byte in all four bytes (R116). -/
def replicateAll (byte : Word32) : Word32 := (byte <<< 24) ||| (byte <<< 16) ||| (byte <<< 8) ||| byte

/-- `0x80` or the low seven bits of encoding B: bit 7 forced to 1 (R116). -/
def unrotated (low7 : Nat) : Word32 := 0x80#32 ||| zext32 low7

end Sys2Proof.Machine
end

