-- ==== Sys2Proof/Machine/Flags.lean ====
section
/-! DEFINITION. Every carry the block computes (10_state.md R24). Where a row of R24 passes the carry through, the operation
returns `carryIn` itself. -/

namespace Sys2Proof.Machine

/-- LSL, amount 1..31: `value[32 - amount]`, the last bit shifted out at the top (R97). -/
def carryLsl (value : Word32) (amount : Nat) : Carry := value.getLsbD (32 - amount)

/-- LSR, amount 1..32: `value[amount - 1]`, the last bit shifted out at the bottom (R98). -/
def carryLsr (value : Word32) (amount : Nat) : Carry := value.getLsbD (amount - 1)

/-- ASR, amount 1..32: `value[amount - 1]` (R99). -/
def carryAsr (value : Word32) (amount : Nat) : Carry := value.getLsbD (amount - 1)

/-- ROR, amount 1..31: `value[31]`, bit 31 of the value BEFORE rotation, as the spec's source documents it and
90_conflicts.md C1 keeps it (R100, log entry 12). -/
def carryRor (value : Word32) : Carry := value.getLsbD 31

/-- RRX: `value[0]` (R101). -/
def carryRrx (value : Word32) : Carry := value.getLsbD 0

/-- The rotated forms of both expanders: bit 31 of the RESULT (R105, R115, R116). -/
def carryOfResult (result : Word32) : Carry := result.getLsbD 31

end Sys2Proof.Machine
end

