-- ==== Sys2Proof/Machine/Ops.lean ====
section
/-! DEFINITION. The shared operations over the output ports: one for each set of ports a response drives (10_state.md R33),
and the failure (60_exceptions.md R155, R160). Each response first puts a free value on every data port, so that a port it
does not drive holds one (R33, log entry 6). -/

namespace Sys2Proof.Machine

/-- A response whose `err` and `err_cause` are given and whose data ports all hold free values. -/
def State.respond (s : State) (err : Bool) (errCause : BitVec 3) : State :=
  { s with
    out :=
      { err := err
        errCause := errCause
        result := Config.freeResult s.freeCount
        carryOut := Config.freeCarryOut s.freeCount
        kindOut := Config.freeKindOut s.freeCount
        amountOut := Config.freeAmountOut s.freeCount }
    freeCount := s.freeCount + 1 }

/-- Taking the failure `InvalidEncoding`: `err` = 1 with the cause's code, and nothing else changes: no mode, no mask, no
saved state, no transfer of control (R155, R156, R160). There is no return from it (R161). -/
def State.raiseInvalid (s : State) (c : Cause) : State := s.respond true (causeCode c)

/-- A response that drives `result`. -/
def State.driveResult (s : State) (result : Word32) : State :=
  let t := s.respond false 0
  { t with out := { t.out with result := result } }

/-- A response that drives `result` and `carry_out`. -/
def State.driveResultCarry (s : State) (rc : Word32 × Carry) : State :=
  let t := s.respond false 0
  { t with out := { t.out with result := rc.1, carryOut := rc.2 } }

/-- A response that drives `kind_out`. -/
def State.driveKind (s : State) (kind : ShiftKind) : State :=
  let t := s.respond false 0
  { t with out := { t.out with kindOut := kindCode kind } }

/-- A response that drives `kind_out` and `amount_out`. -/
def State.driveKindAmount (s : State) (op : ShiftKind × Nat) : State :=
  let t := s.respond false 0
  { t with out := { t.out with kindOut := kindCode op.1, amountOut := BitVec.ofNat 32 op.2 } }

/-- An operation's response: its outputs driven, or its failure taken, never both (R33). -/
def answer {α : Type} (drive : State → α → State) (r : Except Cause α) (s : State) : StepOutcome :=
  match r with
  | .ok a => .next (drive s a)
  | .error c => .next (s.raiseInvalid c)

/-- The data ports an operation drives. -/
structure Drives where
  result : Bool
  carryOut : Bool
  kindOut : Bool
  amountOut : Bool
  deriving DecidableEq, Repr

/-- No data port. -/
def Drives.nothing : Drives := ⟨false, false, false, false⟩

/-- `result` alone. -/
def Drives.resultOnly : Drives := ⟨true, false, false, false⟩

/-- `result` and `carry_out`. -/
def Drives.resultAndCarry : Drives := ⟨true, true, false, false⟩

/-- `kind_out` alone. -/
def Drives.kindOnly : Drives := ⟨false, false, true, false⟩

/-- `kind_out` and `amount_out`. -/
def Drives.kindAndAmount : Drives := ⟨false, false, true, true⟩

/-- The table of R33, and for a field pattern the ports of the operation that decodes it (DEDUCED, log entry 9). -/
def drivesOf : Instr → Drives
  | .decodeImmShift _ _ => .kindAndAmount
  | .decodeRegShift _ => .kindOnly
  | .applyShiftWithCarry _ _ _ _ => .resultAndCarry
  | .applyShift _ _ _ _ => .resultOnly
  | .expandImmediateA _ _ => .resultAndCarry
  | .expandImmediateB _ _ => .resultAndCarry
  | .zeroExtendScatteredImmediate12 _ => .resultOnly
  | .scaledImmediate7 _ => .resultOnly
  | .extractBits _ _ _ => .resultOnly
  | .extractBit _ _ => .resultOnly
  | .isRestrictedRegister _ => .resultOnly
  | .unknownOpB => .nothing
  | .unknownOpC => .nothing
  | .unknownOpD => .nothing
  | .unknownOpE => .nothing
  | .unknownOpF => .nothing
  | .kindLsl _ _ _ => .resultAndCarry
  | .kindLsr _ _ _ => .resultAndCarry
  | .kindAsr _ _ _ => .resultAndCarry
  | .kindRor _ _ _ => .resultAndCarry
  | .kindRrx _ _ _ => .resultAndCarry
  | .badKind5 => .nothing
  | .badKind6 => .nothing
  | .badKind7 => .nothing
  | .selLslImm _ => .kindAndAmount
  | .selLsr32 => .kindAndAmount
  | .selLsrImm _ => .kindAndAmount
  | .selAsr32 => .kindAndAmount
  | .selAsrImm _ => .kindAndAmount
  | .selRrx => .kindAndAmount
  | .selRorImm _ => .kindAndAmount
  | .selLslReg => .kindOnly
  | .selLsrReg => .kindOnly
  | .selAsrReg => .kindOnly
  | .selRorReg => .kindOnly
  | .immAUnrotated _ _ => .resultAndCarry
  | .immARotated _ _ => .resultAndCarry
  | .immBPlain _ _ => .resultAndCarry
  | .immBEven _ _ => .resultAndCarry
  | .immBOdd _ _ => .resultAndCarry
  | .immBAll _ _ => .resultAndCarry
  | .immBRotated8 _ _ => .resultAndCarry
  | .immBRotated16 _ _ => .resultAndCarry
  | .immBRotated24 _ _ => .resultAndCarry
  | .gatherWord _ _ _ => .resultOnly
  | .imm7Word _ => .resultOnly

end Sys2Proof.Machine
end

