-- ==== Sys2Proof/Machine/FieldHelpers.lean ====
section
/-! DEFINITION. The field helpers (44_field_helpers.md). -/

namespace Sys2Proof.Machine

/-- ExtractBits: `value[highBit:lowBit]`, right-justified; the three conditions share one cause (R137). -/
def extractBits (value : Word32) (highBit lowBit : Nat) : Except Cause Word32 :=
  if 31 < highBit ∨ 31 < lowBit ∨ highBit < lowBit then .error .badBitRange
  else .ok (BitVec.ofNat 32 (slice value.toNat highBit lowBit))

/-- ExtractBit, through ExtractBits; a failure propagates (R139). -/
def extractBit (value : Word32) (bitIndex : Nat) : Except Cause Word32 := extractBits value bitIndex bitIndex

/-- IsRestrictedRegister: the numbers 13 and 15 and no others (R140). -/
def isRestrictedRegister (regNum : Nat) : Bool := regNum == 13 || regNum == 15

/-- `op` 0x8 (R137). -/
def execExtractBits (value highBit lowBit : Word32) (s : State) : StepOutcome :=
  answer State.driveResult (extractBits value highBit.toNat lowBit.toNat) s

/-- `op` 0x9 (R139). -/
def execExtractBit (value bitIndex : Word32) (s : State) : StepOutcome :=
  answer State.driveResult (extractBit value bitIndex.toNat) s

/-- `op` 0xA: the predicate in bit 0 with bits 31..1 zero (R32, R140). -/
def execIsRestrictedRegister (regNum : Word32) (s : State) : StepOutcome :=
  .next (s.driveResult (if isRestrictedRegister regNum.toNat then 1 else 0))

end Sys2Proof.Machine
end

