-- ==== Sys2Proof/Machine/ImmediateExpander.lean ====
section
/-! DEFINITION. The Immediate Expander (42_immediate_expander.md) and the rows of formats IMM12_A and IMM12_B (30_encoding.md
R60, R61). The expanders take their carry from the rotated result, not from the ROR unit (41_shift_applier.md R105). -/

namespace Sys2Proof.Machine

/-- A rotated immediate: the result and its bit 31 (R115, R116). -/
def rotatedImmediate (imm : Word32) (rotateAmount : Nat) : Word32 × Carry :=
  let result := ror32 imm rotateAmount
  (result, carryOfResult result)

/-- The replicated forms of encoding B by `selector2` (R116). -/
def replicatedImmediate (selector2 : Nat) (byte : Word32) : Word32 :=
  match selector2 with
  | 0 => byte
  | 1 => replicateEven byte
  | 2 => replicateOdd byte
  | _ => replicateAll byte -- 3, the only selector of two bits that is left

/-- ExpandImmediateA (R115). -/
def expandImmediateA (field12 : Nat) (carryIn : Carry) : Except Cause (Word32 × Carry) :=
  if 4095 < field12 then .error .fieldRange
  else
    let imm := zext32 (slice field12 7 0)
    let rotateAmount := 2 * slice field12 11 8
    if rotateAmount = 0 then .ok (imm, carryIn) else .ok (rotatedImmediate imm rotateAmount)

/-- ExpandImmediateB (R116): `top2` is tested, not `rotateAmount`. -/
def expandImmediateB (field12 : Nat) (carryIn : Carry) : Except Cause (Word32 × Carry) :=
  if 4095 < field12 then .error .fieldRange
  else if slice field12 11 10 = 0 then
    .ok (replicatedImmediate (slice field12 9 8) (zext32 (slice field12 7 0)), carryIn)
  else .ok (rotatedImmediate (unrotated (slice field12 6 0)) (slice field12 11 7))

/-- `op` 0x4 (R115). -/
def execExpandImmediateA (field12 : Word32) (carryIn : Carry) (s : State) : StepOutcome :=
  answer State.driveResultCarry (expandImmediateA field12.toNat carryIn) s

/-- `op` 0x5 (R116). -/
def execExpandImmediateB (field12 : Word32) (carryIn : Carry) (s : State) : StepOutcome :=
  answer State.driveResultCarry (expandImmediateB field12.toNat carryIn) s

/-- `0000bbbbbbbb` of encoding A: no rotation, the carry passes through (R60, R115). -/
def execImmAUnrotated (imm : BitVec 8) (carryIn : Carry) (s : State) : StepOutcome :=
  .next (s.driveResultCarry (zext32 imm.toNat, carryIn))

/-- `rrrrbbbbbbbb` of encoding A (R60, R115). -/
def execImmARotated (rotateSelector : BitVec 4) (imm : BitVec 8) (s : State) : StepOutcome :=
  .next (s.driveResultCarry (rotatedImmediate (zext32 imm.toNat) (2 * rotateSelector.toNat)))

/-- `0000bbbbbbbb` of encoding B: `0x000000XX` (R61, R116). -/
def execImmBPlain (byte : BitVec 8) (carryIn : Carry) (s : State) : StepOutcome :=
  .next (s.driveResultCarry (zext32 byte.toNat, carryIn))

/-- `0001bbbbbbbb` of encoding B: `0x00XX00XX` (R61, R116). -/
def execImmBEven (byte : BitVec 8) (carryIn : Carry) (s : State) : StepOutcome :=
  .next (s.driveResultCarry (replicateEven (zext32 byte.toNat), carryIn))

/-- `0010bbbbbbbb` of encoding B: `0xXX00XX00` (R61, R116). -/
def execImmBOdd (byte : BitVec 8) (carryIn : Carry) (s : State) : StepOutcome :=
  .next (s.driveResultCarry (replicateOdd (zext32 byte.toNat), carryIn))

/-- `0011bbbbbbbb` of encoding B: `0xXXXXXXXX` (R61, R116). -/
def execImmBAll (byte : BitVec 8) (carryIn : Carry) (s : State) : StepOutcome :=
  .next (s.driveResultCarry (replicateAll (zext32 byte.toNat), carryIn))

/-- `01rrrbbbbbbb` of encoding B: rotated by 8..15 (R61, R116). -/
def execImmBRotated8 (rotateAmount : BitVec 5) (low7 : BitVec 7) (s : State) : StepOutcome :=
  .next (s.driveResultCarry (rotatedImmediate (unrotated low7.toNat) rotateAmount.toNat))

/-- `10rrrbbbbbbb` of encoding B: rotated by 16..23 (R61, R116). -/
def execImmBRotated16 (rotateAmount : BitVec 5) (low7 : BitVec 7) (s : State) : StepOutcome :=
  .next (s.driveResultCarry (rotatedImmediate (unrotated low7.toNat) rotateAmount.toNat))

/-- `11rrrbbbbbbb` of encoding B: rotated by 24..31 (R61, R116). -/
def execImmBRotated24 (rotateAmount : BitVec 5) (low7 : BitVec 7) (s : State) : StepOutcome :=
  .next (s.driveResultCarry (rotatedImmediate (unrotated low7.toNat) rotateAmount.toNat))

end Sys2Proof.Machine
end

