-- ==== Sys2Proof/Machine/ImmediateHelpers.lean ====
section
/-! DEFINITION. The auxiliary immediate helpers (43_immediate_helpers.md) and the rows of formats WORD_IMM12_GATHER and
WORD_IMM7 (30_encoding.md R62, R63). They cannot fail. -/

namespace Sys2Proof.Machine

/-- `i :: imm3 :: imm8`, zero-extended (R130). -/
def gatheredImmediate (i : BitVec 1) (imm3 : BitVec 3) (imm8 : BitVec 8) : Word32 := (i ++ imm3 ++ imm8).setWidth 32

/-- ZeroExtendScatteredImmediate12: word bits 26, 14..12 and 7..0 (R130). -/
def zeroExtendScatteredImmediate12 (word : Word32) : Word32 :=
  gatheredImmediate (word.extractLsb' 26 1) (word.extractLsb' 12 3) (word.extractLsb' 0 8)

/-- `imm7 :: 0b00`, zero-extended: the field times 4, unsigned (R131). -/
def scaledImmediate (imm7 : BitVec 7) : Word32 := (imm7 ++ 0#2).setWidth 32

/-- ScaledImmediate7 with the field's lowest bit at `lsb`, the parameter `IMM7_LSB` (R63, R131). -/
def scaledImmediate7 (lsb : Fin 26) (word : Word32) : Word32 := scaledImmediate (word.extractLsb' lsb.val 7)

/-- `op` 0x6 (R130). -/
def execZeroExtendScatteredImmediate12 (word : Word32) (s : State) : StepOutcome :=
  .next (s.driveResult (zeroExtendScatteredImmediate12 word))

/-- `op` 0x7 (R131). -/
def execScaledImmediate7 (word : Word32) (s : State) : StepOutcome :=
  .next (s.driveResult (scaledImmediate7 s.imm7Lsb word))

/-- The fields of a gather word (R62, R130). -/
def execGatherWord (i : BitVec 1) (imm3 : BitVec 3) (byte : BitVec 8) (s : State) : StepOutcome :=
  .next (s.driveResult (gatheredImmediate i imm3 byte))

/-- The field of a word with `IMM7_LSB` = 0, as the row's name says, whatever the parameter is (R63, log entry 18). -/
def execImm7Word (imm7 : BitVec 7) (s : State) : StepOutcome := .next (s.driveResult (scaledImmediate imm7))

end Sys2Proof.Machine
end

