-- ==== Sys2Proof/Machine/Reserved.lean ====
section
/-! DEFINITION. The five op codes that select no operation: the request fails with cause UNKNOWN_OP (30_encoding.md R56). -/

namespace Sys2Proof.Machine

/-- `op` 0xB (R56). -/
def execUnknownOpB (s : State) : StepOutcome := .next (s.raiseInvalid .unknownOp)

/-- `op` 0xC (R56). -/
def execUnknownOpC (s : State) : StepOutcome := .next (s.raiseInvalid .unknownOp)

/-- `op` 0xD (R56). -/
def execUnknownOpD (s : State) : StepOutcome := .next (s.raiseInvalid .unknownOp)

/-- `op` 0xE (R56). -/
def execUnknownOpE (s : State) : StepOutcome := .next (s.raiseInvalid .unknownOp)

/-- `op` 0xF (R56). -/
def execUnknownOpF (s : State) : StepOutcome := .next (s.raiseInvalid .unknownOp)

end Sys2Proof.Machine
end

