-- ==== Sys2Proof/Machine/ShiftApplier.lean ====
section
/-! DEFINITION. The Shift Applier: its five units, the dispatcher, the variant without carry (41_shift_applier.md), and the
rows of format KIND (30_encoding.md R57). -/

namespace Sys2Proof.Machine

/-- LSL, amount 1..31 (R97). -/
def unitLsl (value : Word32) (amount : Nat) : Word32 × Carry := (value <<< amount, carryLsl value amount)

/-- LSR, amount 1..32 (R98). -/
def unitLsr (value : Word32) (amount : Nat) : Word32 × Carry := (value >>> amount, carryLsr value amount)

/-- ASR, amount 1..32: sign-extended to 64 bits, shifted, truncated (R99). -/
def unitAsr (value : Word32) (amount : Nat) : Word32 × Carry :=
  ((sext64 value >>> amount).setWidth 32, carryAsr value amount)

/-- ROR, amount 1..31 (R100). -/
def unitRor (value : Word32) (amount : Nat) : Word32 × Carry := (ror32 value amount, carryRor value)

/-- RRX: `carryIn :: value[31:1]` (R101). -/
def unitRrx (value : Word32) (carryIn : Carry) : Word32 × Carry :=
  (BitVec.ofBool carryIn ++ value.extractLsb' 1 31, carryRrx value)

/-- The unit of a kind (R95). -/
def shiftUnit (value : Word32) (kind : ShiftKind) (amount : Nat) (carryIn : Carry) : Word32 × Carry :=
  match kind with
  | .lsl => unitLsl value amount
  | .lsr => unitLsr value amount
  | .asr => unitAsr value amount
  | .ror => unitRor value amount
  | .rrx => unitRrx value carryIn

/-- The largest amount a kind accepts (R95, R103). -/
def maxAmount : ShiftKind → Nat
  | .lsl => 31
  | .lsr => 32
  | .asr => 32
  | .ror => 31
  | .rrx => 1

/-- ApplyShiftWithCarry on a kind (R95): the RRX amount, then amount 0 (R96), then the kind's bound (R103), then its unit. -/
def applyShiftWithCarry (value : Word32) (kind : ShiftKind) (amount : Nat) (carryIn : Carry) :
    Except Cause (Word32 × Carry) :=
  if kind = .rrx then
    if amount = 1 then .ok (unitRrx value carryIn) else .error .rrxAmount
  else if amount = 0 then .ok (value, carryIn)
  else if maxAmount kind < amount then .error .amountRange
  else .ok (shiftUnit value kind amount carryIn)

/-- ApplyShiftWithCarry on a `kind` port code: a code that is no kind fails first (R95, R159). -/
def applyShiftCode (value : Word32) (code : BitVec 3) (amount : Nat) (carryIn : Carry) : Except Cause (Word32 × Carry) :=
  match kindOfCode code with
  | some kind => applyShiftWithCarry value kind amount carryIn
  | none => .error .badKind

/-- ApplyShift: the carry is discarded and a failure propagates (R102). -/
def applyShift (value : Word32) (code : BitVec 3) (amount : Nat) (carryIn : Carry) : Except Cause Word32 :=
  match applyShiftCode value code amount carryIn with
  | .ok rc => .ok rc.1
  | .error c => .error c

/-- `op` 0x2 (R95). -/
def execApplyShiftWithCarry (value : Word32) (kind : BitVec 3) (amount : Word32) (carryIn : Carry) (s : State) :
    StepOutcome :=
  answer State.driveResultCarry (applyShiftCode value kind amount.toNat carryIn) s

/-- `op` 0x3 (R102). -/
def execApplyShift (value : Word32) (kind : BitVec 3) (amount : Word32) (carryIn : Carry) (s : State) : StepOutcome :=
  answer State.driveResult (applyShift value kind amount.toNat carryIn) s

/-- `kind` 0b000: amounts 0..31 (R97). -/
def execKindLsl (value amount : Word32) (carryIn : Carry) (s : State) : StepOutcome :=
  answer State.driveResultCarry (applyShiftWithCarry value .lsl amount.toNat carryIn) s

/-- `kind` 0b001: amounts 0..32 (R98). -/
def execKindLsr (value amount : Word32) (carryIn : Carry) (s : State) : StepOutcome :=
  answer State.driveResultCarry (applyShiftWithCarry value .lsr amount.toNat carryIn) s

/-- `kind` 0b010: amounts 0..32 (R99). -/
def execKindAsr (value amount : Word32) (carryIn : Carry) (s : State) : StepOutcome :=
  answer State.driveResultCarry (applyShiftWithCarry value .asr amount.toNat carryIn) s

/-- `kind` 0b011: amounts 0..31 (R100). -/
def execKindRor (value amount : Word32) (carryIn : Carry) (s : State) : StepOutcome :=
  answer State.driveResultCarry (applyShiftWithCarry value .ror amount.toNat carryIn) s

/-- `kind` 0b100: amount 1 (R101). -/
def execKindRrx (value amount : Word32) (carryIn : Carry) (s : State) : StepOutcome :=
  answer State.driveResultCarry (applyShiftWithCarry value .rrx amount.toNat carryIn) s

/-- `kind` 0b101 is no kind (R57). -/
def execBadKind5 (s : State) : StepOutcome := .next (s.raiseInvalid .badKind)

/-- `kind` 0b110 is no kind (R57). -/
def execBadKind6 (s : State) : StepOutcome := .next (s.raiseInvalid .badKind)

/-- `kind` 0b111 is no kind (R57). -/
def execBadKind7 (s : State) : StepOutcome := .next (s.raiseInvalid .badKind)

end Sys2Proof.Machine
end

