-- ==== Sys2Proof/Machine/ShiftDecoder.lean ====
section
/-! DEFINITION. The Shift-Type Decoder (40_shift_type_decoder.md) and the rows of formats SHIFT_IMM_SEL and SHIFT_REG_SEL
(30_encoding.md R58, R59). -/

namespace Sys2Proof.Machine

/-- The selector table of R58 on the documented domain: the kind and the normalised amount (R85). -/
def shiftOperandOf (typeCode imm5 : Nat) : ShiftKind × Nat :=
  match typeCode with
  | 0 => (.lsl, imm5)
  | 1 => (.lsr, if imm5 = 0 then 32 else imm5)
  | 2 => (.asr, if imm5 = 0 then 32 else imm5)
  | _ => if imm5 = 0 then (.rrx, 1) else (.ror, imm5)

/-- DecodeImmShift (R85): `typeCode` is checked first, then `imm5` (R159). -/
def decodeImmShift (typeCode imm5 : Nat) : Except Cause (ShiftKind × Nat) :=
  if 3 < typeCode then .error .badShiftType
  else if 31 < imm5 then .error .fieldRange
  else .ok (shiftOperandOf typeCode imm5)

/-- DecodeRegShift (R86): never RRX. -/
def decodeRegShift (typeCode : Nat) : Except Cause ShiftKind :=
  match typeCode with
  | 0 => .ok .lsl
  | 1 => .ok .lsr
  | 2 => .ok .asr
  | 3 => .ok .ror
  | _ => .error .badShiftType

/-- `op` 0x0 (R85). -/
def execDecodeImmShift (typeCode imm5 : Word32) (s : State) : StepOutcome :=
  answer State.driveKindAmount (decodeImmShift typeCode.toNat imm5.toNat) s

/-- `op` 0x1 (R86). -/
def execDecodeRegShift (typeCode : Word32) (s : State) : StepOutcome :=
  answer State.driveKind (decodeRegShift typeCode.toNat) s

/-- `00iiiii` is LSL by `imm5` (R58). -/
def execSelLslImm (imm5 : BitVec 5) (s : State) : StepOutcome := .next (s.driveKindAmount (.lsl, imm5.toNat))

/-- `0100000` is LSR by 32 (R58). -/
def execSelLsr32 (s : State) : StepOutcome := .next (s.driveKindAmount (.lsr, 32))

/-- `01iiiii` is LSR by `imm5` (R58). -/
def execSelLsrImm (imm5 : BitVec 5) (s : State) : StepOutcome := .next (s.driveKindAmount (.lsr, imm5.toNat))

/-- `1000000` is ASR by 32 (R58). -/
def execSelAsr32 (s : State) : StepOutcome := .next (s.driveKindAmount (.asr, 32))

/-- `10iiiii` is ASR by `imm5` (R58). -/
def execSelAsrImm (imm5 : BitVec 5) (s : State) : StepOutcome := .next (s.driveKindAmount (.asr, imm5.toNat))

/-- `1100000` is RRX by 1 (R58). -/
def execSelRrx (s : State) : StepOutcome := .next (s.driveKindAmount (.rrx, 1))

/-- `11iiiii` is ROR by `imm5` (R58). -/
def execSelRorImm (imm5 : BitVec 5) (s : State) : StepOutcome := .next (s.driveKindAmount (.ror, imm5.toNat))

/-- `00` is LSL (R59). -/
def execSelLslReg (s : State) : StepOutcome := .next (s.driveKind .lsl)

/-- `01` is LSR (R59). -/
def execSelLsrReg (s : State) : StepOutcome := .next (s.driveKind .lsr)

/-- `10` is ASR (R59). -/
def execSelAsrReg (s : State) : StepOutcome := .next (s.driveKind .asr)

/-- `11` is ROR (R59). -/
def execSelRorReg (s : State) : StepOutcome := .next (s.driveKind .ror)

end Sys2Proof.Machine
end

