-- ==== Sys2Proof/Machine/Dispatch.lean ====
section
/-! DEFINITION. The meaning of every instruction: one direct call for each constructor of Instr. -/

namespace Sys2Proof.Machine

/-- What an instruction does to the state. -/
def exec (i : Instr) (s : State) : Host.Outcome State Fault Refusal :=
  match i with
  | .decodeImmShift typeCode imm5 => Sys2Proof.Machine.execDecodeImmShift typeCode imm5 s
  | .decodeRegShift typeCode => Sys2Proof.Machine.execDecodeRegShift typeCode s
  | .applyShiftWithCarry value kind amount carryIn => Sys2Proof.Machine.execApplyShiftWithCarry value kind amount carryIn s
  | .applyShift value kind amount carryIn => Sys2Proof.Machine.execApplyShift value kind amount carryIn s
  | .expandImmediateA field12 carryIn => Sys2Proof.Machine.execExpandImmediateA field12 carryIn s
  | .expandImmediateB field12 carryIn => Sys2Proof.Machine.execExpandImmediateB field12 carryIn s
  | .zeroExtendScatteredImmediate12 word => Sys2Proof.Machine.execZeroExtendScatteredImmediate12 word s
  | .scaledImmediate7 word => Sys2Proof.Machine.execScaledImmediate7 word s
  | .extractBits value highBit lowBit => Sys2Proof.Machine.execExtractBits value highBit lowBit s
  | .extractBit value bitIndex => Sys2Proof.Machine.execExtractBit value bitIndex s
  | .isRestrictedRegister regNum => Sys2Proof.Machine.execIsRestrictedRegister regNum s
  | .unknownOpB => Sys2Proof.Machine.execUnknownOpB s
  | .unknownOpC => Sys2Proof.Machine.execUnknownOpC s
  | .unknownOpD => Sys2Proof.Machine.execUnknownOpD s
  | .unknownOpE => Sys2Proof.Machine.execUnknownOpE s
  | .unknownOpF => Sys2Proof.Machine.execUnknownOpF s
  | .kindLsl value amount carryIn => Sys2Proof.Machine.execKindLsl value amount carryIn s
  | .kindLsr value amount carryIn => Sys2Proof.Machine.execKindLsr value amount carryIn s
  | .kindAsr value amount carryIn => Sys2Proof.Machine.execKindAsr value amount carryIn s
  | .kindRor value amount carryIn => Sys2Proof.Machine.execKindRor value amount carryIn s
  | .kindRrx value amount carryIn => Sys2Proof.Machine.execKindRrx value amount carryIn s
  | .badKind5 => Sys2Proof.Machine.execBadKind5 s
  | .badKind6 => Sys2Proof.Machine.execBadKind6 s
  | .badKind7 => Sys2Proof.Machine.execBadKind7 s
  | .selLslImm imm5 => Sys2Proof.Machine.execSelLslImm imm5 s
  | .selLsr32 => Sys2Proof.Machine.execSelLsr32 s
  | .selLsrImm imm5 => Sys2Proof.Machine.execSelLsrImm imm5 s
  | .selAsr32 => Sys2Proof.Machine.execSelAsr32 s
  | .selAsrImm imm5 => Sys2Proof.Machine.execSelAsrImm imm5 s
  | .selRrx => Sys2Proof.Machine.execSelRrx s
  | .selRorImm imm5 => Sys2Proof.Machine.execSelRorImm imm5 s
  | .selLslReg => Sys2Proof.Machine.execSelLslReg s
  | .selLsrReg => Sys2Proof.Machine.execSelLsrReg s
  | .selAsrReg => Sys2Proof.Machine.execSelAsrReg s
  | .selRorReg => Sys2Proof.Machine.execSelRorReg s
  | .immAUnrotated imm carryIn => Sys2Proof.Machine.execImmAUnrotated imm carryIn s
  | .immARotated rotateSelector imm => Sys2Proof.Machine.execImmARotated rotateSelector imm s
  | .immBPlain byte carryIn => Sys2Proof.Machine.execImmBPlain byte carryIn s
  | .immBEven byte carryIn => Sys2Proof.Machine.execImmBEven byte carryIn s
  | .immBOdd byte carryIn => Sys2Proof.Machine.execImmBOdd byte carryIn s
  | .immBAll byte carryIn => Sys2Proof.Machine.execImmBAll byte carryIn s
  | .immBRotated8 rotateAmount low7 => Sys2Proof.Machine.execImmBRotated8 rotateAmount low7 s
  | .immBRotated16 rotateAmount low7 => Sys2Proof.Machine.execImmBRotated16 rotateAmount low7 s
  | .immBRotated24 rotateAmount low7 => Sys2Proof.Machine.execImmBRotated24 rotateAmount low7 s
  | .gatherWord top imm3 byte => Sys2Proof.Machine.execGatherWord top imm3 byte s
  | .imm7Word imm7 => Sys2Proof.Machine.execImm7Word imm7 s

end Sys2Proof.Machine
end

