-- ==== Sys2Proof/Machine/Step.lean ====
section
/-! DEFINITION. One step: the block answers the request presented (20_memory.md R47, 70_reset_and_hazards.md R181), and what
the caller does between steps, presenting a request (10_state.md R31). -/

namespace Sys2Proof.Machine

/-- The caller presents a request: the input ports change and nothing else. -/
def State.present (s : State) (r : Request) : State := { s with inp := r }

/-- The state in which the request of a table word is presented, every other port at 0; a word that is no request changes
nothing. The block fetches nothing (20_memory.md R50), so this stands for the caller's presenting it (log entry 11). -/
def State.withFetchWord (s : State) (nbits w : Nat) : State :=
  match requestOfTableWord nbits w with
  | .ok r => s.present r
  | .error _ => s

/-- The block answers the request on its input ports. -/
def step (s : State) : Host.Outcome State Fault Refusal := exec (decode s.inp) s

end Sys2Proof.Machine
end

