-- ==== Sys2Proof/Machine/Pipeline.lean ====
section
/-! DEFINITION. The caller's sequences of requests (45_pipeline_compositions.md): as derived functions (R148, R150, R151) and as
requests issued one after another, each built from the driven outputs of the one before and stopping at the first failure
(R147, R153). They are no operations of the block (30_encoding.md R71). -/

namespace Sys2Proof.Machine

/-- ShiftByImmediate (R148). -/
def shiftByImmediate (value : Word32) (typeCode imm5 : Nat) (carryIn : Carry) : Except Cause (Word32 × Carry) :=
  match decodeImmShift typeCode imm5 with
  | .ok op => applyShiftWithCarry value op.1 op.2 carryIn
  | .error c => .error c

/-- ShiftByRegister (R150). -/
def shiftByRegister (value : Word32) (typeCode amount : Nat) (carryIn : Carry) : Except Cause (Word32 × Carry) :=
  match decodeRegShift typeCode with
  | .ok kind => applyShiftWithCarry value kind amount carryIn
  | .error c => .error c

/-- ExpandScatteredImmediateB (R151). -/
def expandScatteredImmediateB (word : Word32) (carryIn : Carry) : Except Cause (Word32 × Carry) :=
  expandImmediateB (zeroExtendScatteredImmediate12 word).toNat carryIn

/-- The caller issues one request: it presents the request of an instruction and the block answers it. -/
def ask (i : Instr) (s : State) : StepOutcome := step (s.present (encode i))

/-- The caller goes on with the next request unless the last one failed (R153). -/
def thenAsk (o : StepOutcome) (next : Response → Instr) : StepOutcome :=
  match o with
  | .next t => if t.out.err then .next t else ask (next t.out) t
  | .fault r => .fault r
  | .refused r => .refused r

/-- ShiftByImmediate as two requests: the decoded kind and amount go into the applier's request (R147, R148). -/
def askShiftByImmediate (value typeCode imm5 : Word32) (carryIn : Carry) (s : State) : StepOutcome :=
  thenAsk (ask (.decodeImmShift typeCode imm5) s) fun o => .applyShiftWithCarry value o.kindOut o.amountOut carryIn

/-- ShiftByRegister as two requests: the caller supplies the amount (R147, R150). -/
def askShiftByRegister (value typeCode amount : Word32) (carryIn : Carry) (s : State) : StepOutcome :=
  thenAsk (ask (.decodeRegShift typeCode) s) fun o => .applyShiftWithCarry value o.kindOut amount carryIn

/-- ExpandScatteredImmediateB as two requests (R147, R151). -/
def askExpandScatteredImmediateB (word : Word32) (carryIn : Carry) (s : State) : StepOutcome :=
  thenAsk (ask (.zeroExtendScatteredImmediate12 word) s) fun o => .expandImmediateB o.result carryIn

/-- The caller feeds the result and the carry of each RRX request into the next one, `n` times (41_shift_applier.md R106). -/
def askRrxAgain : Nat → State → StepOutcome
  | 0, s => .next s
  | n + 1, s =>
    match ask (.applyShiftWithCarry s.out.result 0b100 1 s.out.carryOut) s with
    | .next t => askRrxAgain n t
    | .fault r => .fault r
    | .refused r => .refused r

end Sys2Proof.Machine
end

