-- ==== Sys2Proof/Safety.lean ====
section
/-! DEFINITION. The terms that claims are stated in: what a caller may read of a response (10_state.md R33), which requests
the block rejects (30_encoding.md R67), which ports a request's operation reads (R55), and what a settled state is. -/

namespace Sys2Proof.Machine

/-- What a caller may read: `err` and `err_cause` always, a data output only where it is driven (R33). -/
structure Readable where
  err : Bool
  errCause : BitVec 3
  result : Option Word32
  carryOut : Option Carry
  kindOut : Option (BitVec 3)
  amountOut : Option Word32
  deriving DecidableEq, Repr

/-- The readable part of a response whose operation drives the ports `d`: no data output when `err` = 1 (R33). -/
def Response.readable (o : Response) (d : Drives) : Readable where
  err := o.err
  errCause := o.errCause
  result := if !o.err && d.result then some o.result else none
  carryOut := if !o.err && d.carryOut then some o.carryOut else none
  kindOut := if !o.err && d.kindOut then some o.kindOut else none
  amountOut := if !o.err && d.amountOut then some o.amountOut else none

/-- The readable outputs of a state: those driven by the operation its request selects. -/
def State.readable (s : State) : Readable := s.out.readable (drivesOf (decode s.inp))

/-- The instruction is answered without failure, and its response satisfies `P`. -/
def Succeeds (i : Instr) (s : State) (P : Response → Prop) : Prop :=
  ∃ t, exec i s = .next t ∧ t.out.err = false ∧ t.out.errCause = 0 ∧ P t.out

/-- The instruction is answered with the failure `InvalidEncoding` and the cause code `code` (R155, R156). -/
def FailsWith (i : Instr) (s : State) (code : BitVec 3) : Prop :=
  ∃ t, exec i s = .next t ∧ t.out.err = true ∧ t.out.errCause = code

/-- The cause code a request on the ports is rejected with, 0 where it is accepted: the table of R67 in the order of R159,
on the integer values of the ports. -/
def rejectionCode (r : Request) : BitVec 3 :=
  match r.op.toNat with
  | 0x0 => if 3 < r.typeCode.toNat then 1 else if 31 < r.imm5.toNat then 5 else 0
  | 0x1 => if 3 < r.typeCode.toNat then 1 else 0
  | 0x2 => applierCode r
  | 0x3 => applierCode r
  | 0x4 => if 4095 < r.field12.toNat then 5 else 0
  | 0x5 => if 4095 < r.field12.toNat then 5 else 0
  | 0x6 => 0
  | 0x7 => 0
  | 0x8 => if r.highBit.toNat < r.lowBit.toNat ∨ 31 < r.highBit.toNat ∨ 31 < r.lowBit.toNat then 2 else 0
  | 0x9 => if 31 < r.highBit.toNat then 2 else 0
  | 0xA => 0
  | _ => 7
where
  /-- The rows of ApplyShiftWithCarry and ApplyShift. -/
  applierCode (r : Request) : BitVec 3 :=
    if 5 ≤ r.kind.toNat then 6
    else if r.kind.toNat = 4 then (if r.amount.toNat = 1 then 0 else 3)
    else if (r.kind.toNat = 0 ∨ r.kind.toNat = 3) ∧ 31 < r.amount.toNat then 4
    else if (r.kind.toNat = 1 ∨ r.kind.toNat = 2) ∧ 32 < r.amount.toNat then 4
    else 0

/-- Two requests agree on the `op` code and on the ports its operation reads (the table of R55). -/
def SameReadPorts (r r' : Request) : Prop :=
  r.op = r'.op ∧
    match r.op.toNat with
    | 0x0 => r.typeCode = r'.typeCode ∧ r.imm5 = r'.imm5
    | 0x1 => r.typeCode = r'.typeCode
    | 0x2 => r.value = r'.value ∧ r.kind = r'.kind ∧ r.amount = r'.amount ∧ r.carryIn = r'.carryIn
    | 0x3 => r.value = r'.value ∧ r.kind = r'.kind ∧ r.amount = r'.amount ∧ r.carryIn = r'.carryIn
    | 0x4 => r.field12 = r'.field12 ∧ r.carryIn = r'.carryIn
    | 0x5 => r.field12 = r'.field12 ∧ r.carryIn = r'.carryIn
    | 0x6 => r.value = r'.value
    | 0x7 => r.value = r'.value
    | 0x8 => r.value = r'.value ∧ r.highBit = r'.highBit ∧ r.lowBit = r'.lowBit
    | 0x9 => r.value = r'.value ∧ r.highBit = r'.highBit
    | 0xA => r.regNum = r'.regNum
    | _ => True

/-- The request on the ports that a field pattern abbreviates: the operation that decodes the pattern, with the pattern's
bits on the port it comes from (R57 to R63). A request on the ports is itself. -/
def portRequestOf (r : Request) : Request :=
  match r.pattern with
  | none => r
  | some (.kind code) => { r with pattern := none, op := 0x2, kind := code }
  | some (.shiftImmSel sel) =>
    { r with pattern := none, op := 0x0
             typeCode := BitVec.ofNat 32 (sel.toNat / 32), imm5 := BitVec.ofNat 32 (sel.toNat % 32) }
  | some (.shiftRegSel sel) => { r with pattern := none, op := 0x1, typeCode := BitVec.ofNat 32 sel.toNat }
  | some (.imm12A field12) => { r with pattern := none, op := 0x4, field12 := BitVec.ofNat 32 field12.toNat }
  | some (.imm12B field12) => { r with pattern := none, op := 0x5, field12 := BitVec.ofNat 32 field12.toNat }
  | some (.wordGather word) => { r with pattern := none, op := 0x6, value := word }
  | some (.wordImm7 word) => { r with pattern := none, op := 0x7, value := word }

/-- The outputs lie in the ranges of R32 and R33: a cause exactly when there is a failure, a kind code that names a kind
(R57), an amount of at most 32, and the results of the operations whose range R33 gives. -/
structure OutputsInRange (s : State) : Prop where
  cause_iff : s.out.errCause = 0 ↔ s.out.err = false
  kind_le : ∀ k, s.readable.kindOut = some k → k.toNat ≤ 4
  amount_le : ∀ a, s.readable.amountOut = some a → a.toNat ≤ 32
  gather_le : s.inp.pattern = none → s.inp.op = 0x6 → ∀ w, s.readable.result = some w → w.toNat ≤ 4095
  scaled_le : s.inp.pattern = none → s.inp.op = 0x7 → ∀ w, s.readable.result = some w → w.toNat ≤ 508 ∧ w.toNat % 4 = 0
  bit_le : s.inp.pattern = none → s.inp.op = 0x9 → ∀ w, s.readable.result = some w → w.toNat ≤ 1
  predicate_le : s.inp.pattern = none → s.inp.op = 0xA → ∀ w, s.readable.result = some w → w.toNat ≤ 1

/-- The readable outputs are the answer to the request that is presented (70_reset_and_hazards.md R175, R181). -/
def Settled (s : State) : Prop := ∃ t, step s = .next t ∧ t.readable = s.readable

end Sys2Proof.Machine
end

