-- ==== Sys2Proof/Certificates/Slice0/Obligations.lean ====
section
/-! DEFINITION. The statements for the provers. Each docstring names the rule of spec/ it is about; INVENTORY.md and the
assumption log say what is the model's own. -/

open Sys2Proof Sys2Proof.Machine

/-! ### Requests and decoding -/

/-- A step is the meaning of the instruction the presented request decodes to, and presenting a well-formed instruction's
request makes the step run exactly it. The block moves past nothing: it has no program counter (10_state.md R22). -/
def Obligations.StepRunsTheDecodedRequest : Prop :=
  (∀ s : State, step s = exec (decode s.inp) s) ∧
    ∀ (i : Instr) (s : State), i.wf = true → step (s.present (encode i)) = exec i (s.present (encode i))

/-- R55 and R56: the 4-bit `op` port selects the operation and the ports it reads. -/
def Obligations.OpCodeSelectsTheOperation : Prop :=
  ∀ r : Request, r.pattern = none →
    (r.op = 0x0 → decode r = .decodeImmShift r.typeCode r.imm5) ∧
    (r.op = 0x1 → decode r = .decodeRegShift r.typeCode) ∧
    (r.op = 0x2 → decode r = .applyShiftWithCarry r.value r.kind r.amount r.carryIn) ∧
    (r.op = 0x3 → decode r = .applyShift r.value r.kind r.amount r.carryIn) ∧
    (r.op = 0x4 → decode r = .expandImmediateA r.field12 r.carryIn) ∧
    (r.op = 0x5 → decode r = .expandImmediateB r.field12 r.carryIn) ∧
    (r.op = 0x6 → decode r = .zeroExtendScatteredImmediate12 r.value) ∧
    (r.op = 0x7 → decode r = .scaledImmediate7 r.value) ∧
    (r.op = 0x8 → decode r = .extractBits r.value r.highBit r.lowBit) ∧
    (r.op = 0x9 → decode r = .extractBit r.value r.highBit) ∧
    (r.op = 0xA → decode r = .isRestrictedRegister r.regNum) ∧
    (r.op = 0xB → decode r = .unknownOpB) ∧
    (r.op = 0xC → decode r = .unknownOpC) ∧
    (r.op = 0xD → decode r = .unknownOpD) ∧
    (r.op = 0xE → decode r = .unknownOpE) ∧
    (r.op = 0xF → decode r = .unknownOpF)

/-- A few field patterns written out bit by bit from 30_encoding.md R57 to R63. A pattern presented by itself is the model's
own request (log entry 8). -/
def Obligations.WrittenOutPatternsDecode : Prop :=
  decode (.ofPattern (.shiftImmSel 0b1000000)) = .selAsr32 ∧
  decode (.ofPattern (.shiftImmSel 0b1100101)) = .selRorImm 0b00101 ∧
  decode (.ofPattern (.shiftRegSel 0b10)) = .selAsrReg ∧
  decode (.ofPattern (.imm12A 0b010011111111)) = .immARotated 0b0100 0b11111111 ∧
  decode (.ofPattern (.imm12B 0b001011111111)) = .immBOdd 0b11111111 false ∧
  decode (.ofPattern (.imm12B 0b010000000000)) = .immBRotated8 0b01000 0b0000000 ∧
  decode (.ofPattern (.wordGather 0b00000100000000000111000000010010)) = .gatherWord 0b1 0b111 0b00010010 ∧
  decode (.ofPattern (.wordImm7 0b00000000000000001011000010000010)) = .imm7Word 0b0000010 ∧
  decode (.ofKind 0b011 1 2 true) = .kindRor 1 2 true

/-- Decoding the request that presents a well-formed instruction gives it back, with every operand at every value. The
requests that present a field pattern by itself are the model's own (log entry 8). -/
def Obligations.DecodeEncodeRoundTrip : Prop := ∀ i : Instr, i.wf = true → decode (encode i) = i

/-- Every request decodes to an instruction that meets its row's side condition (30_encoding.md R58, R60, R61, R72). -/
def Obligations.DecodedInstructionsAreWellFormed : Prop := ∀ r : Request, (decode r).wf = true

/-- R31, R159: two requests that agree on `op` and on the ports its operation reads are answered alike, whatever the other
ports, the earlier outputs and the free values are. -/
def Obligations.UnreadPortsNeverMatter : Prop :=
  ∀ s s' t t' : State, s.inp.pattern = none → s'.inp.pattern = none → SameReadPorts s.inp s'.inp →
    s.imm7Lsb = s'.imm7Lsb → step s = .next t → step s' = .next t' → t.readable = t'.readable

/-- R35, R46, R161, R180: what may be read of a response depends on the request alone (and on the build-time parameter): a
request issued after any other one, a failed one too, is answered as if that one had never been issued. -/
def Obligations.ResponsesIgnoreEarlierRequests : Prop :=
  ∀ (r r' : Request) (s t u v : State), step (s.present r) = .next t → step (t.present r') = .next u →
    step (s.present r') = .next v → u.readable = v.readable

/-- A field pattern presented by itself (the model's own request, log entry 8) is answered as the operation that decodes it
answers the same bits on its port (30_encoding.md R57 to R63, log entry 9): for the row with `IMM7_LSB` = 0, when the
parameter is 0 (log entry 18). -/
def Obligations.PatternRequestsAgreeWithTheirOperation : Prop :=
  ∀ s t t' : State, ((∃ w, s.inp.pattern = some (.wordImm7 w)) → s.imm7Lsb = 0) → step s = .next t →
    step (s.present (portRequestOf s.inp)) = .next t' → t.readable = t'.readable

/-! ### Failures, frames and invariants -/

/-- R183, which the spec derives from the pseudocode of its files 40 to 44: every request gets exactly one response, a result
or `InvalidEncoding`. That a failure is a next state is the model's reading (DEDUCED, log entry 7). -/
def Obligations.EveryRequestIsAnswered : Prop :=
  ∀ s : State, ∃ t, step s = .next t ∧ (t.out.err = true ∧ t.out.errCause ≠ 0 ∨ t.out.err = false ∧ t.out.errCause = 0)

/-- R67 with R159: a request on the ports fails exactly when the table of R67 rejects it, and with the first cause that
applies. Several rows of the table are the spec's own decisions D3 to D6, and the order of causes is D8 (log entry 13). -/
def Obligations.RejectedInputsAreExactlyTheTable : Prop :=
  ∀ s t : State, s.inp.pattern = none → step s = .next t →
    t.out.errCause = rejectionCode s.inp ∧ (t.out.err = true ↔ rejectionCode s.inp ≠ 0)

/-- R56, as a whole the spec's own decision D3 (log entry 13): the codes 0xB to 0xF select no operation. -/
def Obligations.UnknownOpCodesFail : Prop :=
  (∀ s t : State, s.inp.pattern = none → 0xB ≤ s.inp.op.toNat → step s = .next t →
    t.out.err = true ∧ t.out.errCause = 7) ∧
  ∀ s : State, FailsWith .unknownOpB s 7 ∧ FailsWith .unknownOpC s 7 ∧ FailsWith .unknownOpD s 7 ∧
    FailsWith .unknownOpE s 7 ∧ FailsWith .unknownOpF s 7

/-- R57: the `kind` codes 5, 6 and 7 name no kind: whatever the other operands are, the cause is BAD_KIND (the spec's
decision D4, log entry 13). The clauses on the three rows of those codes rest on the model's pattern requests (log entries 8
and 9). -/
def Obligations.CodesThatAreNoKindFail : Prop :=
  ∀ (s : State) (v n : Word32) (k : BitVec 3) (c : Carry), 5 ≤ k.toNat →
    FailsWith (.applyShiftWithCarry v k n c) s 6 ∧ FailsWith (.applyShift v k n c) s 6 ∧
    FailsWith .badKind5 s 6 ∧ FailsWith .badKind6 s 6 ∧ FailsWith .badKind7 s 6

/-- R20, R160, R177: an instruction, answered or failed, changes the output ports and nothing else: not the request the
caller presents and not the parameter `IMM7_LSB`. The model's own counter advances by one. -/
def Obligations.InstructionsChangeOnlyTheOutputs : Prop :=
  ∀ (i : Instr) (s t : State), exec i s = .next t →
    t.inp = s.inp ∧ t.imm7Lsb = s.imm7Lsb ∧ t.freeCount = s.freeCount + 1

/-- The ranges of R32 and R33 are kept by every step. -/
def Obligations.StepKeepsOutputsInRange : Prop :=
  ∀ s t : State, OutputsInRange s → step s = .next t → OutputsInRange t

/-- The outputs of the reset state lie in the ranges of R32 and R33. -/
def Obligations.ResetOutputsAreInRange : Prop := OutputsInRange State.reset

/-- R43, R180: after a step the readable outputs are the answer to the request presented, and repeating the request repeats
the response. -/
def Obligations.RepeatedRequestsRepeatTheResponse : Prop :=
  ∀ s t : State, step s = .next t → ∃ u, step t = .next u ∧ u.readable = t.readable ∧ u.inp = t.inp

/-- R175: the readable outputs of the reset state are the answer to its inputs. The inputs at reset are the model's choice
(log entry 3). -/
def Obligations.ResetIsSettled : Prop := Settled State.reset

/-! ### The Shift-Type Decoder -/

/-- R85: the table of DecodeImmShift on the documented domain, and its failures in the order of the checks. -/
def Obligations.DecodeImmShiftFollowsItsTable : Prop :=
  ∀ (s : State) (tc i5 : Word32),
    (tc.toNat ≤ 3 → i5.toNat ≤ 31 →
      Succeeds (.decodeImmShift tc i5) s fun o =>
        (tc = 0 → o.kindOut = 0b000 ∧ o.amountOut = i5) ∧
        (tc = 1 → o.kindOut = 0b001 ∧ o.amountOut = if i5 = 0 then 32 else i5) ∧
        (tc = 2 → o.kindOut = 0b010 ∧ o.amountOut = if i5 = 0 then 32 else i5) ∧
        (tc = 3 → i5 = 0 → o.kindOut = 0b100 ∧ o.amountOut = 1) ∧
        (tc = 3 → i5 ≠ 0 → o.kindOut = 0b011 ∧ o.amountOut = i5)) ∧
    (3 < tc.toNat → FailsWith (.decodeImmShift tc i5) s 1) ∧
    (tc.toNat ≤ 3 → 31 < i5.toNat → FailsWith (.decodeImmShift tc i5) s 5)

/-- R86: the table of DecodeRegShift, which never gives RRX, and its failure. -/
def Obligations.DecodeRegShiftFollowsItsTable : Prop :=
  ∀ (s : State) (tc : Word32),
    (tc.toNat ≤ 3 → Succeeds (.decodeRegShift tc) s fun o => o.kindOut.toNat = tc.toNat) ∧
    (3 < tc.toNat → FailsWith (.decodeRegShift tc) s 1)

/-- R87, which the spec derives from R85, R86 and R95: the applier accepts every kind and amount that DecodeImmShift returns,
and every kind that DecodeRegShift returns with an amount in 0..31. -/
def Obligations.DecodedShiftsAreAccepted : Prop :=
  (∀ (s t : State) (tc i5 v : Word32) (c : Carry), exec (.decodeImmShift tc i5) s = .next t → t.out.err = false →
    Succeeds (.applyShiftWithCarry v t.out.kindOut t.out.amountOut c) t fun _ => True) ∧
  ∀ (s t : State) (tc v n : Word32) (c : Carry), exec (.decodeRegShift tc) s = .next t → t.out.err = false →
    n.toNat ≤ 31 → t.out.kindOut ≠ 0b100 ∧ Succeeds (.applyShiftWithCarry v t.out.kindOut n c) t fun _ => True

/-- R88, which the spec derives from R85: DecodeImmShift is one-to-one on its domain, and returns none of (LSL, 32), (ROR,
0), (ROR, 32), (LSR, 0) and (ASR, 0). -/
def Obligations.DecodeImmShiftIsOneToOne : Prop :=
  ∀ (s t t' : State) (tc i5 tc' i5' : Word32),
    exec (.decodeImmShift tc i5) s = .next t → t.out.err = false →
    (exec (.decodeImmShift tc' i5') s = .next t' → t'.out.err = false →
      t.out.kindOut = t'.out.kindOut → t.out.amountOut = t'.out.amountOut → tc = tc' ∧ i5 = i5') ∧
    (t.out.kindOut, t.out.amountOut) ∉
      ([(0b000, 32), (0b011, 0), (0b011, 32), (0b001, 0), (0b010, 0)] : List (BitVec 3 × Word32))

/-- R58: every 7-bit selector, read as `typeCode :: imm5`, is answered with the kind and amount of its row. The rows are
presented by the model's own requests (log entries 8 and 9). R58 gives the three rows with a nonzero immediate no answer for
`imm5` = 0; what the statement says of that case, of terms that no request decodes to, is the model's choice (log entry 16). -/
def Obligations.ShiftImmediateRowsAnswer : Prop :=
  ∀ (s : State) (i5 : BitVec 5),
    (Succeeds (.selLslImm i5) s fun o => o.kindOut = 0b000 ∧ o.amountOut.toNat = i5.toNat) ∧
    (Succeeds .selLsr32 s fun o => o.kindOut = 0b001 ∧ o.amountOut = 32) ∧
    (Succeeds (.selLsrImm i5) s fun o => o.kindOut = 0b001 ∧ o.amountOut.toNat = i5.toNat) ∧
    (Succeeds .selAsr32 s fun o => o.kindOut = 0b010 ∧ o.amountOut = 32) ∧
    (Succeeds (.selAsrImm i5) s fun o => o.kindOut = 0b010 ∧ o.amountOut.toNat = i5.toNat) ∧
    (Succeeds .selRrx s fun o => o.kindOut = 0b100 ∧ o.amountOut = 1) ∧
    (Succeeds (.selRorImm i5) s fun o => o.kindOut = 0b011 ∧ o.amountOut.toNat = i5.toNat)

/-- R58: all 128 patterns are assigned, an exact row before the pattern row. The pattern request is the model's own (log
entry 8). -/
def Obligations.AllSelectorPatternsAreAssigned : Prop :=
  ∀ (tc : BitVec 2) (i5 : BitVec 5),
    decode (.ofPattern (.shiftImmSel (tc ++ i5))) =
      if tc = 0 then .selLslImm i5
      else if tc = 1 then (if i5 = 0 then .selLsr32 else .selLsrImm i5)
      else if tc = 2 then (if i5 = 0 then .selAsr32 else .selAsrImm i5)
      else (if i5 = 0 then .selRrx else .selRorImm i5)

/-- R59: the two-bit selector of a register-controlled shift, presented by the model's own requests (log entries 8 and 9). -/
def Obligations.ShiftRegisterRowsAnswer : Prop :=
  ∀ s : State,
    (Succeeds .selLslReg s fun o => o.kindOut = 0b000) ∧ (Succeeds .selLsrReg s fun o => o.kindOut = 0b001) ∧
    (Succeeds .selAsrReg s fun o => o.kindOut = 0b010) ∧ (Succeeds .selRorReg s fun o => o.kindOut = 0b011) ∧
    decode (.ofPattern (.shiftRegSel 0b00)) = .selLslReg ∧ decode (.ofPattern (.shiftRegSel 0b01)) = .selLsrReg ∧
    decode (.ofPattern (.shiftRegSel 0b10)) = .selAsrReg ∧ decode (.ofPattern (.shiftRegSel 0b11)) = .selRorReg

/-! ### The Shift Applier -/

/-- R96: for every kind but RRX, amount 0 returns the value and the carry unchanged; RRX rejects it. It is the only case
apart from RRX that reads the carry, and DecodeImmShift returns it with LSL only. The clauses on the kind rows rest on the
model's pattern requests (log entries 8 and 9), and the equality of whole outcomes, undriven outputs included, on the model's
free values (log entry 6). -/
def Obligations.AmountZeroKeepsValueAndCarry : Prop :=
  ∀ (s : State) (v n : Word32) (k : BitVec 3) (c c' : Carry),
    (k.toNat ≤ 3 → ∀ i ∈ [Instr.applyShiftWithCarry v k 0 c, .kindLsl v 0 c, .kindLsr v 0 c, .kindAsr v 0 c,
      .kindRor v 0 c], Succeeds i s fun o => o.result = v ∧ o.carryOut = c) ∧
    (∀ i ∈ [Instr.applyShiftWithCarry v 0b100 0 c, .kindRrx v 0 c], FailsWith i s 3) ∧
    (k.toNat ≤ 3 → n ≠ 0 → exec (.applyShiftWithCarry v k n c) s = exec (.applyShiftWithCarry v k n c') s) ∧
    ∀ (t : State) (tc i5 : Word32), exec (.decodeImmShift tc i5) s = .next t → t.out.err = false →
      t.out.amountOut = 0 → t.out.kindOut = 0b000

/-- R24, the column of what is read: the response depends on the carry input in the rows that say yes, where two carries are
told apart, and in no other. ApplyShift uses it for RRX only. The equalities are of whole outcomes at one state, whose
undriven outputs, unspecified in R33, are equal by the model's choice of free values (log entry 6). The amounts that RRX
rejects and the codes that are no kind are in RrxTurnsTheRingByOne and CodesThatAreNoKindFail. -/
def Obligations.CarryInIsReadOnlyWhereTheTableSays : Prop :=
  ∀ (s : State) (v n f : Word32) (k : BitVec 3) (c c' : Carry),
    (k.toNat ≤ 3 → n ≠ 0 → exec (.applyShiftWithCarry v k n c) s = exec (.applyShiftWithCarry v k n c') s) ∧
    (k ≠ 0b100 → exec (.applyShift v k n c) s = exec (.applyShift v k n c') s) ∧
    (256 ≤ f.toNat → exec (.expandImmediateA f c) s = exec (.expandImmediateA f c') s) ∧
    (1024 ≤ f.toNat → exec (.expandImmediateB f c) s = exec (.expandImmediateB f c') s) ∧
    (c ≠ c' →
      (k.toNat ≤ 3 → exec (.applyShiftWithCarry v k 0 c) s ≠ exec (.applyShiftWithCarry v k 0 c') s) ∧
      exec (.applyShiftWithCarry v 0b100 1 c) s ≠ exec (.applyShiftWithCarry v 0b100 1 c') s ∧
      exec (.applyShift v 0b100 1 c) s ≠ exec (.applyShift v 0b100 1 c') s ∧
      (f.toNat < 256 → exec (.expandImmediateA f c) s ≠ exec (.expandImmediateA f c') s) ∧
      (f.toNat < 1024 → exec (.expandImmediateB f c) s ≠ exec (.expandImmediateB f c') s))

/-- R97: LSL by 1..31, as a number and bit by bit. The clause on the kind row rests on the model's pattern requests (log
entries 8 and 9). -/
def Obligations.LslShiftsLeft : Prop :=
  ∀ (s : State) (v n : Word32) (c : Carry), 1 ≤ n.toNat → n.toNat ≤ 31 →
    ∀ i ∈ [Instr.applyShiftWithCarry v 0b000 n c, .kindLsl v n c],
      Succeeds i s fun o =>
        o.result.toNat = v.toNat * 2 ^ n.toNat % 2 ^ 32 ∧
        (∀ j < 32, o.result.getLsbD j = (decide (n.toNat ≤ j) && v.getLsbD (j - n.toNat))) ∧
        o.carryOut = v.getLsbD (32 - n.toNat)

/-- R98: LSR by 1..32, as a number and bit by bit. The clause on the kind row rests on the model's pattern requests (log
entries 8 and 9). -/
def Obligations.LsrShiftsRight : Prop :=
  ∀ (s : State) (v n : Word32) (c : Carry), 1 ≤ n.toNat → n.toNat ≤ 32 →
    ∀ i ∈ [Instr.applyShiftWithCarry v 0b001 n c, .kindLsr v n c],
      Succeeds i s fun o =>
        o.result.toNat = v.toNat / 2 ^ n.toNat ∧
        (∀ j < 32, o.result.getLsbD j = (decide (j + n.toNat ≤ 31) && v.getLsbD (j + n.toNat))) ∧
        o.carryOut = v.getLsbD (n.toNat - 1)

/-- R99: ASR by 1..32, as a signed number rounded toward minus infinity and bit by bit. The clause on the kind row rests on
the model's pattern requests (log entries 8 and 9). -/
def Obligations.AsrShiftsRightWithTheSign : Prop :=
  ∀ (s : State) (v n : Word32) (c : Carry), 1 ≤ n.toNat → n.toNat ≤ 32 →
    ∀ i ∈ [Instr.applyShiftWithCarry v 0b010 n c, .kindAsr v n c],
      Succeeds i s fun o =>
        o.result.toInt = Int.fdiv v.toInt (2 ^ n.toNat) ∧
        (∀ j < 32, o.result.getLsbD j = if j + n.toNat ≤ 31 then v.getLsbD (j + n.toNat) else v.getLsbD 31) ∧
        o.carryOut = v.getLsbD (n.toNat - 1)

/-- R100: ROR by 1..31; the carry is bit 31 of the value BEFORE rotation (log entry 12). The clause on the kind row rests on
the model's pattern requests (log entries 8 and 9). -/
def Obligations.RorRotatesAndKeepsTheOldTopBitAsCarry : Prop :=
  ∀ (s : State) (v n : Word32) (c : Carry), 1 ≤ n.toNat → n.toNat ≤ 31 →
    ∀ i ∈ [Instr.applyShiftWithCarry v 0b011 n c, .kindRor v n c],
      Succeeds i s fun o =>
        (∀ j < 32, o.result.getLsbD j = v.getLsbD ((j + n.toNat) % 32)) ∧ o.carryOut = v.getLsbD 31

/-- R101: RRX by 1 turns the ring of the carry and the value by one place; any other amount fails, 0 included. The clause on
the kind row rests on the model's pattern requests (log entries 8 and 9). -/
def Obligations.RrxTurnsTheRingByOne : Prop :=
  ∀ (s : State) (v n : Word32) (c : Carry), ∀ i ∈ [Instr.applyShiftWithCarry v 0b100 n c, .kindRrx v n c],
    (n = 1 → Succeeds i s fun o =>
      o.result.getLsbD 31 = c ∧ (∀ j < 31, o.result.getLsbD j = v.getLsbD (j + 1)) ∧ o.carryOut = v.getLsbD 0 ∧
      (o.result ++ BitVec.ofBool o.carryOut : BitVec 33) = BitVec.ofBool c ++ v) ∧
    (n ≠ 1 → FailsWith i s 3)

/-- R103, a reading that the spec records as its own choice (decision D5, log entry 13): an amount above the kind's range
fails with AMOUNT_RANGE, in both operations and in the unit's own row. The clauses on the kind rows rest on the model's
pattern requests (log entries 8 and 9). -/
def Obligations.AmountsAboveTheRangeFail : Prop :=
  ∀ (s : State) (v n : Word32) (c : Carry),
    (31 < n.toNat → ∀ i ∈ [Instr.applyShiftWithCarry v 0b000 n c, .applyShift v 0b000 n c, .kindLsl v n c,
      .applyShiftWithCarry v 0b011 n c, .applyShift v 0b011 n c, .kindRor v n c], FailsWith i s 4) ∧
    (32 < n.toNat → ∀ i ∈ [Instr.applyShiftWithCarry v 0b001 n c, .applyShift v 0b001 n c, .kindLsr v n c,
      .applyShiftWithCarry v 0b010 n c, .applyShift v 0b010 n c, .kindAsr v n c], FailsWith i s 4)

/-- R102: ApplyShift answers what ApplyShiftWithCarry answers, less the carry: the same failure and cause, or the same
result; on the amounts R95 accepts it does not fail. -/
def Obligations.ApplyShiftDropsOnlyTheCarry : Prop :=
  ∀ (s : State) (v n : Word32) (k : BitVec 3) (c : Carry),
    (∃ t t', exec (.applyShiftWithCarry v k n c) s = .next t ∧ exec (.applyShift v k n c) s = .next t' ∧
      t'.out.err = t.out.err ∧ t'.out.errCause = t.out.errCause ∧
      (t.out.err = false → t'.out.result = t.out.result)) ∧
    ((k = 0b000 ∨ k = 0b011) ∧ n.toNat ≤ 31 ∨ (k = 0b001 ∨ k = 0b010) ∧ n.toNat ≤ 32 ∨ k = 0b100 ∧ n = 1 →
      ∃ t t', exec (.applyShiftWithCarry v k n c) s = .next t ∧ t.out.err = false ∧
        exec (.applyShift v k n c) s = .next t' ∧ t'.out.err = false ∧ t'.out.errCause = 0 ∧
        t'.out.result = t.out.result)

/-- R104: the round trips of ROR, of LSL then LSR, and of LSR then LSL. That left by n is ROR by 32 - n is the spec's own
reading (90_conflicts.md C3), and what the pairs clear where they do not restore is R104's sentence marked derived. -/
def Obligations.ShiftPairsRoundTrip : Prop :=
  ∀ (s t u : State) (v n : Word32) (c c' : Carry), 1 ≤ n.toNat → n.toNat ≤ 31 →
    (exec (.applyShift v 0b011 n c) s = .next t → exec (.applyShift t.out.result 0b011 (32 - n) c') t = .next u →
      u.out.err = false ∧ u.out.result = v) ∧
    (exec (.applyShift v 0b000 n c) s = .next t → exec (.applyShift t.out.result 0b001 n c') t = .next u →
      u.out.err = false ∧ u.out.result.toNat = v.toNat % 2 ^ (32 - n.toNat) ∧
      (v.toNat < 2 ^ (32 - n.toNat) → u.out.result = v)) ∧
    (exec (.applyShift v 0b001 n c) s = .next t → exec (.applyShift t.out.result 0b000 n c') t = .next u →
      u.out.err = false ∧ u.out.result.toNat = v.toNat - v.toNat % 2 ^ n.toNat ∧
      (v.toNat % 2 ^ n.toNat = 0 → u.out.result = v))

/-- R105, which the spec derives from R100, R115 and R116: the ROR unit on an 8-bit immediate never gives a carry, where an
expander's rotated form takes bit 31 of its result. -/
def Obligations.ExpandersDoNotUseTheRorCarry : Prop :=
  (∀ (s : State) (b : BitVec 8) (n : Word32) (c : Carry), 1 ≤ n.toNat → n.toNat ≤ 31 →
    Succeeds (.applyShiftWithCarry (BitVec.ofNat 32 b.toNat) 0b011 n c) s fun o => o.carryOut = false) ∧
  ∀ (s : State) (f : Word32) (c : Carry), f.toNat ≤ 4095 →
    (256 ≤ f.toNat → Succeeds (.expandImmediateA f c) s fun o => o.carryOut = o.result.getLsbD 31) ∧
    (1024 ≤ f.toNat → Succeeds (.expandImmediateB f c) s fun o => o.carryOut = o.result.getLsbD 31)

/-- R106, which the spec derives from R97 to R101: RRX, with its result and its carry fed back 33 times, restores both. -/
def Obligations.ThirtyThreeRrxRestore : Prop :=
  ∀ s : State, ∃ t, askRrxAgain 33 s = .next t ∧ t.out.result = s.out.result ∧ t.out.carryOut = s.out.carryOut

/-- 95_test_vectors.md P2: LSR by 1 of the high word and RRX of the low word with that carry shift the 64-bit number right
by one; the last carry is the bit shifted out. -/
def Obligations.LsrThenRrxShiftsADoubleWord : Prop :=
  ∀ (s t u : State) (hi lo : Word32) (c : Carry),
    step (s.present (encode (.applyShiftWithCarry hi 0b001 1 c))) = .next t →
    step (t.present (encode (.applyShiftWithCarry lo 0b100 1 t.out.carryOut))) = .next u →
    t.out.result.toNat * 2 ^ 32 + u.out.result.toNat = (hi.toNat * 2 ^ 32 + lo.toNat) / 2 ∧
    u.out.carryOut = lo.getLsbD 0

/-! ### The Immediate Expander -/

/-- R115: ExpandImmediateA on its domain, bit by bit, and its failure. -/
def Obligations.ExpandImmediateARotatesByTwiceTheSelector : Prop :=
  ∀ (s : State) (f : Word32) (c : Carry),
    (f.toNat < 256 → Succeeds (.expandImmediateA f c) s fun o => o.result = f ∧ o.carryOut = c) ∧
    (256 ≤ f.toNat → f.toNat ≤ 4095 → Succeeds (.expandImmediateA f c) s fun o =>
      (∀ j < 32, o.result.getLsbD j =
        (decide ((j + 2 * (f.toNat / 256)) % 32 < 8) && f.getLsbD ((j + 2 * (f.toNat / 256)) % 32))) ∧
      o.carryOut = o.result.getLsbD 31) ∧
    (4095 < f.toNat → FailsWith (.expandImmediateA f c) s 5)

/-- R115, corner case 1, which the spec marks derived: in the rotated forms of encoding A the carry is 1 only for
`rotateSelector` 1 to 4, with the bit of `imm` that lands on bit 31. -/
def Obligations.ExpandImmediateACarryNeedsASmallSelector : Prop :=
  ∀ (s : State) (f : Word32) (c : Carry), 256 ≤ f.toNat → f.toNat ≤ 4095 →
    Succeeds (.expandImmediateA f c) s fun o =>
      o.carryOut = (decide (f.toNat / 256 ≤ 4) && f.getLsbD (2 * (f.toNat / 256) - 1))

/-- R116: ExpandImmediateB on its domain: the four replicated forms as products, the rotated form bit by bit, and its
failure. -/
def Obligations.ExpandImmediateBReplicatesOrRotates : Prop :=
  ∀ (s : State) (f : Word32) (c : Carry),
    (f.toNat < 1024 → Succeeds (.expandImmediateB f c) s fun o =>
      (f.toNat / 256 = 0 → o.result.toNat = f.toNat % 256) ∧
      (f.toNat / 256 = 1 → o.result.toNat = f.toNat % 256 * 0x00010001) ∧
      (f.toNat / 256 = 2 → o.result.toNat = f.toNat % 256 * 0x01000100) ∧
      (f.toNat / 256 = 3 → o.result.toNat = f.toNat % 256 * 0x01010101) ∧ o.carryOut = c) ∧
    (1024 ≤ f.toNat → f.toNat ≤ 4095 → Succeeds (.expandImmediateB f c) s fun o =>
      (∀ j < 32, o.result.getLsbD j =
        (decide ((j + f.toNat / 128) % 32 = 7) ||
          decide ((j + f.toNat / 128) % 32 < 7) && f.getLsbD ((j + f.toNat / 128) % 32))) ∧
      o.carryOut = o.result.getLsbD 31) ∧
    (4095 < f.toNat → FailsWith (.expandImmediateB f c) s 5)

/-- R117, which the spec derives from R116: the rotated form of encoding B never wraps: its closed form, its carry, and its
least value. -/
def Obligations.ExpandImmediateBClosedForm : Prop :=
  ∀ (s : State) (f : Word32) (c : Carry), 1024 ≤ f.toNat → f.toNat ≤ 4095 →
    Succeeds (.expandImmediateB f c) s fun o =>
      o.result.toNat = (128 + f.toNat % 128) * 2 ^ (32 - f.toNat / 128) ∧
      o.result.getLsbD (39 - f.toNat / 128) = true ∧
      (o.carryOut = true ↔ f.toNat / 128 = 8) ∧
      (o.carryOut = true ↔ 0x400 ≤ f.toNat ∧ f.toNat ≤ 0x47F) ∧ 0x100 ≤ o.result.toNat

/-- The rows of IMM12_A (30_encoding.md R60) give what R115 gives for their twelve bits. The rows are presented by the
model's own requests (log entries 8 and 9). -/
def Obligations.EncodingARowsAnswer : Prop :=
  ∀ (s : State) (sel : BitVec 4) (imm : BitVec 8) (c : Carry),
    (Succeeds (.immAUnrotated imm c) s fun o => o.result.toNat = imm.toNat ∧ o.carryOut = c) ∧
    (sel ≠ 0 → Succeeds (.immARotated sel imm) s fun o =>
      (∀ j < 32, o.result.getLsbD j = imm.getLsbD ((j + 2 * sel.toNat) % 32)) ∧ o.carryOut = o.result.getLsbD 31)

/-- The rows of IMM12_B (30_encoding.md R61) give what R116 and R117 give for their twelve bits. The rows are presented by
the model's own requests (log entries 8 and 9). -/
def Obligations.EncodingBRowsAnswer : Prop :=
  ∀ (s : State) (b : BitVec 8) (r : BitVec 5) (low7 : BitVec 7) (c : Carry),
    (Succeeds (.immBPlain b c) s fun o => o.result.toNat = b.toNat ∧ o.carryOut = c) ∧
    (Succeeds (.immBEven b c) s fun o => o.result.toNat = b.toNat * 0x00010001 ∧ o.carryOut = c) ∧
    (Succeeds (.immBOdd b c) s fun o => o.result.toNat = b.toNat * 0x01000100 ∧ o.carryOut = c) ∧
    (Succeeds (.immBAll b c) s fun o => o.result.toNat = b.toNat * 0x01010101 ∧ o.carryOut = c) ∧
    (r.toNat / 8 = 1 → Succeeds (.immBRotated8 r low7) s fun o =>
      o.result.toNat = (128 + low7.toNat) * 2 ^ (32 - r.toNat) ∧ (o.carryOut = true ↔ r.toNat = 8)) ∧
    (r.toNat / 8 = 2 → Succeeds (.immBRotated16 r low7) s fun o =>
      o.result.toNat = (128 + low7.toNat) * 2 ^ (32 - r.toNat) ∧ o.carryOut = false) ∧
    (r.toNat / 8 = 3 → Succeeds (.immBRotated24 r low7) s fun o =>
      o.result.toNat = (128 + low7.toNat) * 2 ^ (32 - r.toNat) ∧ o.carryOut = false)

/-! ### The helpers -/

/-- R130: the gather of word bits 26, 14..12 and 7..0. That the row of its word form agrees rests on the model's pattern
requests (log entries 8 and 9). -/
def Obligations.GatherTakesTheScatteredBits : Prop :=
  ∀ (s : State) (w : Word32) (i : BitVec 1) (imm3 : BitVec 3) (b : BitVec 8),
    (Succeeds (.zeroExtendScatteredImmediate12 w) s fun o =>
      o.result.toNat = w.toNat / 2 ^ 26 % 2 * 2048 + w.toNat / 2 ^ 12 % 8 * 256 + w.toNat % 256) ∧
    (Succeeds (.gatherWord i imm3 b) s fun o => o.result.toNat = i.toNat * 2048 + imm3.toNat * 256 + b.toNat)

/-- R131: the seven bits at `IMM7_LSB`, times 4, whatever the parameter is; the position of the field is the spec's decision
D9 (log entry 13). That the row with `IMM7_LSB` = 0 agrees rests on the model's own log entries 8, 9 and 18. -/
def Obligations.ScaledImmediateIsFourTimesItsField : Prop :=
  ∀ (s : State) (w : Word32) (imm7 : BitVec 7),
    (Succeeds (.scaledImmediate7 w) s fun o => o.result.toNat = w.toNat / 2 ^ s.imm7Lsb.val % 128 * 4) ∧
    (Succeeds (.imm7Word imm7) s fun o => o.result.toNat = imm7.toNat * 4)

/-- R132, which the spec derives from R130, R131, R137 and R139: each helper is a combination of ExtractBit and ExtractBits. -/
def Obligations.HelpersAreCombinationsOfExtractBits : Prop :=
  ∀ (s a b c d g h : State) (w : Word32), exec (.extractBit w 26) s = .next a → exec (.extractBits w 14 12) s = .next b →
    exec (.extractBits w 7 0) s = .next c → exec (.extractBits w 6 0) s = .next d →
    exec (.zeroExtendScatteredImmediate12 w) s = .next g → exec (.scaledImmediate7 w) s = .next h →
    g.out.result = (a.out.result <<< 11) ||| (b.out.result <<< 8) ||| c.out.result ∧
    (s.imm7Lsb = 0 → h.out.result = d.out.result * 4)

/-- R137: ExtractBits on its domain, bit by bit and bounded, and its failures. -/
def Obligations.ExtractBitsCutsTheRange : Prop :=
  ∀ (s : State) (v hi lo : Word32),
    (hi.toNat ≤ 31 → lo.toNat ≤ hi.toNat → Succeeds (.extractBits v hi lo) s fun o =>
      (∀ j < 32, o.result.getLsbD j = (decide (j ≤ hi.toNat - lo.toNat) && v.getLsbD (lo.toNat + j))) ∧
      o.result.toNat = v.toNat / 2 ^ lo.toNat % 2 ^ (hi.toNat - lo.toNat + 1)) ∧
    (31 < hi.toNat ∨ 31 < lo.toNat ∨ hi.toNat < lo.toNat → FailsWith (.extractBits v hi lo) s 2)

/-- R139: ExtractBit is ExtractBits with both indices at `bitIndex`: the bit on the domain, the same failure off it. The last
clause equates whole outcomes at one state, whose undriven outputs, unspecified in R33, are equal by the model's choice of
free values (log entry 6). -/
def Obligations.ExtractBitReadsOneBit : Prop :=
  ∀ (s : State) (v b : Word32),
    (b.toNat ≤ 31 → Succeeds (.extractBit v b) s fun o => o.result = if v.getLsbD b.toNat then 1 else 0) ∧
    (31 < b.toNat → FailsWith (.extractBit v b) s 2) ∧
    exec (.extractBit v b) s = exec (.extractBits v b b) s

/-- R140: the predicate is true of 13 and 15 and of no other number, and never fails. -/
def Obligations.OnlyThirteenAndFifteenAreRestricted : Prop :=
  ∀ (s : State) (n : Word32), Succeeds (.isRestrictedRegister n) s fun o =>
    (o.result = 1 ↔ n.toNat = 13 ∨ n.toNat = 15) ∧ (o.result = 0 ↔ n.toNat ≠ 13 ∧ n.toNat ≠ 15)

/-! ### The caller's sequences -/

/-- R149, which the spec derives from R148 and R96 to R101: ShiftByImmediate as two requests, for every selector; out of the
domain the sequence ends at the decoder's failure (R148, R153). -/
def Obligations.ShiftByImmediateFollowsItsTable : Prop :=
  ∀ (s : State) (v tc i5 : Word32) (c : Carry), ∃ t, askShiftByImmediate v tc i5 c s = .next t ∧
    (tc.toNat ≤ 3 → i5.toNat ≤ 31 → t.out.err = false ∧
      (tc = 0 → i5 = 0 → t.out.result = v ∧ t.out.carryOut = c) ∧
      (tc = 0 → i5 ≠ 0 → t.out.result = v <<< i5.toNat ∧ t.out.carryOut = v.getLsbD (32 - i5.toNat)) ∧
      (tc = 1 → i5 = 0 → t.out.result = 0 ∧ t.out.carryOut = v.getLsbD 31) ∧
      (tc = 1 → i5 ≠ 0 → t.out.result = v >>> i5.toNat ∧ t.out.carryOut = v.getLsbD (i5.toNat - 1)) ∧
      (tc = 2 → i5 = 0 → t.out.result = (if v.getLsbD 31 then 0xFFFFFFFF else 0) ∧ t.out.carryOut = v.getLsbD 31) ∧
      (tc = 2 → i5 ≠ 0 → t.out.result = v.sshiftRight i5.toNat ∧ t.out.carryOut = v.getLsbD (i5.toNat - 1)) ∧
      (tc = 3 → i5 = 0 → t.out.result.toNat = c.toNat * 2 ^ 31 + v.toNat / 2 ∧ t.out.carryOut = v.getLsbD 0) ∧
      (tc = 3 → i5 ≠ 0 → t.out.result = v.rotateRight i5.toNat ∧ t.out.carryOut = v.getLsbD 31)) ∧
    (3 < tc.toNat → t.out.err = true ∧ t.out.errCause = 1) ∧
    (tc.toNat ≤ 3 → 31 < i5.toNat → t.out.err = true ∧ t.out.errCause = 5)

/-- R150, which the spec derives from R86 and R95: ShiftByRegister as two requests: never RRX, amount 0 keeps value and
carry, 32 is accepted for LSR and ASR only, a larger amount fails, and so does a selector above 3. -/
def Obligations.ShiftByRegisterFollowsItsTable : Prop :=
  ∀ (s : State) (v tc n : Word32) (c : Carry), ∃ t, askShiftByRegister v tc n c s = .next t ∧
    (tc.toNat ≤ 3 → n = 0 → t.out.err = false ∧ t.out.result = v ∧ t.out.carryOut = c) ∧
    (tc.toNat ≤ 3 → n ≠ 0 → n.toNat ≤ 31 → t.out.err = false ∧
      (tc = 0 → t.out.result = v <<< n.toNat ∧ t.out.carryOut = v.getLsbD (32 - n.toNat)) ∧
      (tc = 1 → t.out.result = v >>> n.toNat ∧ t.out.carryOut = v.getLsbD (n.toNat - 1)) ∧
      (tc = 2 → t.out.result = v.sshiftRight n.toNat ∧ t.out.carryOut = v.getLsbD (n.toNat - 1)) ∧
      (tc = 3 → t.out.result = v.rotateRight n.toNat ∧ t.out.carryOut = v.getLsbD 31)) ∧
    (tc = 1 → n = 32 → t.out.err = false ∧ t.out.result = 0 ∧ t.out.carryOut = v.getLsbD 31) ∧
    (tc = 2 → n = 32 → t.out.err = false ∧ t.out.result = (if v.getLsbD 31 then 0xFFFFFFFF else 0) ∧
      t.out.carryOut = v.getLsbD 31) ∧
    (tc = 0 ∨ tc = 3 → n.toNat = 32 → t.out.err = true ∧ t.out.errCause = 4) ∧
    (tc.toNat ≤ 3 → 32 < n.toNat → t.out.err = true ∧ t.out.errCause = 4) ∧
    (3 < tc.toNat → t.out.err = true ∧ t.out.errCause = 1)

/-- R151, which the spec derives from R130 and R116: ExpandScatteredImmediateB as two requests fails for no word, and gives
what R116 gives for the gathered bits. -/
def Obligations.ExpandScatteredImmediateBNeverFails : Prop :=
  ∀ (s : State) (w : Word32) (c : Carry),
    ∃ t u, askExpandScatteredImmediateB w c s = .next t ∧ t.out.err = false ∧ t.out.errCause = 0 ∧
      exec (.expandImmediateB
        (BitVec.ofNat 32 (w.toNat / 2 ^ 26 % 2 * 2048 + w.toNat / 2 ^ 12 % 8 * 256 + w.toNat % 256)) c) s = .next u ∧
      t.out.result = u.out.result ∧ t.out.carryOut = u.out.carryOut

/-- R148, R150 and R151, which the spec derives: each sequence of two requests answers what its derived function gives: the
same failure, or the same result and carry. -/
def Obligations.SequencesRefineTheirFunctions : Prop :=
  ∀ (s : State) (v a b : Word32) (c : Carry),
    ∀ p ∈ [(askShiftByImmediate v a b c s, shiftByImmediate v a.toNat b.toNat c),
        (askShiftByRegister v a b c s, shiftByRegister v a.toNat b.toNat c),
        (askExpandScatteredImmediateB v c s, expandScatteredImmediateB v c)],
      ∃ t, p.1 = .next t ∧
        match p.2 with
        | .ok rc => t.out.err = false ∧ t.out.errCause = 0 ∧ t.out.result = rc.1 ∧ t.out.carryOut = rc.2
        | .error e => t.out.err = true ∧ t.out.errCause = causeCode e
end

