-- ==== Sys2Proof/Laws/Encoding.lean ====
section
/-! SUPPORT. Fields of joined bit strings, and what the decoders read from them. -/

namespace Sys2Proof

theorem extractLsb'_append_high {n m : Nat} (a : BitVec n) (b : BitVec m) (k len : Nat) :
    (a ++ b).extractLsb' (m + k) len = a.extractLsb' k len := by
  apply BitVec.eq_of_getLsbD_eq
  intro i hi
  simp [BitVec.getLsbD_append, hi, Nat.add_assoc]

theorem extractLsb'_append_low {n m : Nat} (a : BitVec n) (b : BitVec m) (k len : Nat) (h : k + len ≤ m) :
    (a ++ b).extractLsb' k len = b.extractLsb' k len := by
  apply BitVec.eq_of_getLsbD_eq
  intro i hi
  have : k + i < m := by omega
  simp [BitVec.getLsbD_append, hi, this]

/-- A field of a joined string that is the whole upper part. -/
theorem extractLsb'_append_upper {n m : Nat} (a : BitVec n) (b : BitVec m) : (a ++ b).extractLsb' m n = a := by
  simpa using extractLsb'_append_high a b 0 n

/-- A field of a joined string that is the whole lower part. -/
theorem extractLsb'_append_lower {n m : Nat} (a : BitVec n) (b : BitVec m) : (a ++ b).extractLsb' 0 m = b := by
  simpa using extractLsb'_append_low a b 0 m (by omega)

theorem decodeImm12A_append (rotateSelector : BitVec 4) (imm : BitVec 8) (c : Carry) :
    decodeImm12A (rotateSelector ++ imm) c =
      if rotateSelector = 0#4 then .immAUnrotated imm c else .immARotated rotateSelector imm := by
  simp only [decodeImm12A, extractLsb'_append_upper rotateSelector imm, extractLsb'_append_lower rotateSelector imm]

theorem decodeImm12BReplicated_append (hi : BitVec 4) (byte : BitVec 8) (c : Carry) :
    decodeImm12BReplicated (hi ++ byte) c =
      match hi.extractLsb' 0 2 with
      | 0 => .immBPlain byte c
      | 1 => .immBEven byte c
      | 2 => .immBOdd byte c
      | 3 => .immBAll byte c := by
  have h := extractLsb'_append_high hi byte 0 2
  simp only [Nat.add_zero] at h
  simp only [decodeImm12BReplicated, h, extractLsb'_append_lower hi byte] <;> rfl

/-- Encoding B with `top2` = 0 is a replicated form. -/
theorem decodeImm12B_replicated (hi : BitVec 4) (byte : BitVec 8) (c : Carry) (h : hi.extractLsb' 2 2 = 0) :
    decodeImm12B (hi ++ byte) c = decodeImm12BReplicated (hi ++ byte) c := by
  have h1 := extractLsb'_append_high hi byte 2 2
  simp only [decodeImm12B, h1, h]
  rfl

/-- Encoding B read as `rotateAmount` and the low seven bits. -/
theorem decodeImm12B_append (rotateAmount : BitVec 5) (low7 : BitVec 7) (c : Carry) :
    decodeImm12B (rotateAmount ++ low7) c =
      match rotateAmount.extractLsb' 3 2 with
      | 0 => decodeImm12BReplicated (rotateAmount ++ low7) c
      | 1 => .immBRotated8 rotateAmount low7
      | 2 => .immBRotated16 rotateAmount low7
      | 3 => .immBRotated24 rotateAmount low7 := by
  have h := extractLsb'_append_high rotateAmount low7 3 2
  simp only [decodeImm12B, h, extractLsb'_append_upper rotateAmount low7, extractLsb'_append_lower rotateAmount low7] <;>
    rfl

/-- The three fields of a gather word. -/
theorem gatherWordBits_fields (i : BitVec 1) (imm3 : BitVec 3) (byte : BitVec 8) :
    (gatherWordBits i imm3 byte).extractLsb' 26 1 = i ∧ (gatherWordBits i imm3 byte).extractLsb' 12 3 = imm3 ∧
      (gatherWordBits i imm3 byte).extractLsb' 0 8 = byte := by
  refine ⟨?_, ?_, extractLsb'_append_lower _ byte⟩
  · exact (extractLsb'_append_high _ byte 18 1).trans ((extractLsb'_append_high _ (0#4) 14 1).trans
      ((extractLsb'_append_high _ imm3 11 1).trans ((extractLsb'_append_high _ (0#11) 0 1).trans
        (extractLsb'_append_lower _ i))))
  · exact (extractLsb'_append_high _ byte 4 3).trans ((extractLsb'_append_high _ (0#4) 0 3).trans
      (extractLsb'_append_lower _ imm3))

end Sys2Proof
end

