-- ==== Sys2Proof/Laws/Operands.lean ====
section
/-! SUPPORT. One lemma for each operand form and each unit: what it computes, bit by bit or as a number. -/

namespace Sys2Proof.Machine

theorem slice_lt (v hi lo : Nat) : slice v hi lo < 2 ^ (hi - lo + 1) := Nat.mod_lt _ (by positivity)

theorem testBit_slice (v hi lo j : Nat) :
    (slice v hi lo).testBit j = (decide (j ≤ hi - lo) && v.testBit (lo + j)) := by
  simp only [slice, Nat.testBit_mod_two_pow, Nat.testBit_div_two_pow, Nat.add_comm j lo]
  congr 1
  simp only [decide_eq_decide]
  omega

/-- `ROR32` moves bit `(i + n) mod 32` to bit `i` (R12). -/
theorem getLsbD_ror32 (x : Word32) (n i : Nat) (hn : n < 32) (hi : i < 32) :
    (ror32 x n).getLsbD i = x.getLsbD ((i + n) % 32) := by
  unfold ror32
  split
  · next h => subst h; simp [Nat.mod_eq_of_lt hi]
  · next h =>
    simp only [BitVec.getLsbD_or, BitVec.getLsbD_ushiftRight, BitVec.getLsbD_shiftLeft, hi, decide_true, Bool.true_and]
    by_cases hin : i + n < 32
    · have h2 : i < 32 - n := by omega
      simp [Nat.mod_eq_of_lt hin, h2, Nat.add_comm n i]
    · have h1 : (i + n) % 32 = i + n - 32 := by omega
      have h2 : ¬ i < 32 - n := by omega
      have h3 : x.getLsbD (n + i) = false := BitVec.getLsbD_of_ge _ _ (by omega)
      have h4 : i - (32 - n) = i + n - 32 := by omega
      simp [h1, h2, h3, h4]

/-- The arithmetic shift copies bit 31 into the vacated bits (R99). -/
theorem getLsbD_unitAsr (v : Word32) (n i : Nat) (hn : n ≤ 32) (hi : i < 32) :
    (unitAsr v n).1.getLsbD i = if i + n ≤ 31 then v.getLsbD (i + n) else v.getLsbD 31 := by
  simp only [unitAsr, sext64, BitVec.getLsbD_setWidth, BitVec.getLsbD_ushiftRight, BitVec.getLsbD_signExtend, hi,
    decide_true, Bool.true_and, BitVec.msb_eq_getLsbD_last, Nat.add_comm n i]
  have h : i + n < 64 := by omega
  by_cases hin : i + n ≤ 31
  · simp [h, hin, show i + n < 32 by omega]
  · simp [h, hin, show ¬ i + n < 32 by omega]

theorem getLsbD_zext32 (v i : Nat) (hi : i < 32) : (zext32 v).getLsbD i = v.testBit i := by
  simp only [zext32, BitVec.getLsbD_ofNat, hi, decide_true, Bool.true_and]

/-- The rotated immediate of encoding A or B, bit by bit, with its carry (R115, R116). -/
theorem rotatedImmediate_spec (imm : Word32) (n : Nat) :
    (rotatedImmediate imm n).1 = ror32 imm n ∧ (rotatedImmediate imm n).2 = (ror32 imm n).getLsbD 31 := ⟨rfl, rfl⟩

/-- The applier on an accepted amount other than 0 is the kind's unit (R95). -/
theorem applyShiftWithCarry_unit {v : Word32} {k : ShiftKind} {n : Nat} {c : Carry} (hk : k ≠ .rrx) (h0 : n ≠ 0)
    (hn : n ≤ maxAmount k) : applyShiftWithCarry v k n c = .ok (shiftUnit v k n c) := by
  simp [applyShiftWithCarry, hk, h0, Nat.not_lt.mpr hn]

/-- Amount 0 keeps the value and the carry (R96). -/
theorem applyShiftWithCarry_zero {v : Word32} {k : ShiftKind} {c : Carry} (hk : k ≠ .rrx) :
    applyShiftWithCarry v k 0 c = .ok (v, c) := by
  simp [applyShiftWithCarry, hk]

/-- RRX takes the amount 1 and no other (R101). -/
theorem applyShiftWithCarry_rrx (v : Word32) (n : Nat) (c : Carry) :
    applyShiftWithCarry v .rrx n c = if n = 1 then .ok (unitRrx v c) else .error .rrxAmount := by
  simp [applyShiftWithCarry]

/-- An amount above the kind's bound fails (R103). -/
theorem applyShiftWithCarry_range {v : Word32} {k : ShiftKind} {n : Nat} {c : Carry} (hk : k ≠ .rrx)
    (hn : maxAmount k < n) : applyShiftWithCarry v k n c = .error .amountRange := by
  simp [applyShiftWithCarry, hk, hn, Nat.ne_zero_of_lt hn]

/-- What the decoder returns is in the applier's domain (R87). -/
theorem decodeImmShift_ok {typeCode imm5 : Nat} {op : ShiftKind × Nat} (h : decodeImmShift typeCode imm5 = .ok op) :
    typeCode ≤ 3 ∧ imm5 ≤ 31 ∧ op = shiftOperandOf typeCode imm5 := by
  unfold decodeImmShift at h
  split at h
  · cases h
  · split at h
    · cases h
    · exact ⟨by omega, by omega, by simpa using h.symm⟩

/-- `ROR32` is the library's rotation (R12). -/
theorem ror32_eq_rotateRight (x : Word32) (n : Nat) (hn : n < 32) : ror32 x n = x.rotateRight n := by
  apply BitVec.eq_of_getLsbD_eq
  intro i hi
  rw [getLsbD_ror32 x n i hn hi, BitVec.getLsbD_rotateRight, Nat.mod_eq_of_lt hn]
  by_cases h : i < 32 - n
  · simp only [h, decide_true, cond_true]; congr 1; omega
  · simp only [h, decide_false, cond_false, hi, decide_true, Bool.true_and]; congr 1; omega

/-- The 64-bit detour is an arithmetic shift (R99). -/
theorem unitAsr_eq_sshiftRight (v : Word32) (n : Nat) (hn : n ≤ 32) : (unitAsr v n).1 = v.sshiftRight n := by
  apply BitVec.eq_of_getLsbD_eq
  intro i hi
  rw [getLsbD_unitAsr v n i hn hi, BitVec.getLsbD_sshiftRight, BitVec.msb_eq_getLsbD_last]
  have : ¬ 32 ≤ i := by omega
  simp only [this, decide_false, Bool.not_false, Bool.true_and, Nat.add_comm n i]
  by_cases h : i + n ≤ 31
  · simp [h, show i + n < 32 by omega]
  · simp [h, show ¬ i + n < 32 by omega]

/-- ASR rounds toward minus infinity (R99). -/
theorem toInt_unitAsr (v : Word32) (n : Nat) (hn : n ≤ 32) : (unitAsr v n).1.toInt = Int.fdiv v.toInt (2 ^ n) := by
  rw [unitAsr_eq_sshiftRight v n hn, BitVec.toInt_sshiftRight, Int.shiftRight_eq_div_pow,
    Int.fdiv_eq_ediv_of_nonneg _ (by positivity)]
  norm_cast

/-- The replicated forms as products (R116). -/
theorem toNat_replicate (byte : BitVec 8) :
    (replicateEven (zext32 byte.toNat)).toNat = byte.toNat * 0x00010001 ∧
    (replicateOdd (zext32 byte.toNat)).toNat = byte.toNat * 0x01000100 ∧
    (replicateAll (zext32 byte.toNat)).toNat = byte.toNat * 0x01010101 := by
  revert byte; decide

/-- The unrotated byte of encoding B has its top bit set (R116). -/
theorem toNat_unrotated (low7 : BitVec 7) : (unrotated low7.toNat).toNat = 128 + low7.toNat := by
  revert low7; decide

/-- A rotation that never wraps is a left shift (R117). -/
theorem toNat_ror32_of_lt (x : Word32) (n : Nat) (hn : 0 < n) (hn' : n < 32) (hx : x.toNat < 2 ^ n) :
    (ror32 x n).toNat = x.toNat * 2 ^ (32 - n) := by
  have h1 : x >>> n = 0#32 := BitVec.eq_of_toNat_eq (by simp [Nat.shiftRight_eq_div_pow, Nat.div_eq_of_lt hx])
  have h2 : x.toNat * 2 ^ (32 - n) < 2 ^ 32 := by
    calc x.toNat * 2 ^ (32 - n) < 2 ^ n * 2 ^ (32 - n) := Nat.mul_lt_mul_of_pos_right hx (by positivity)
      _ = 2 ^ 32 := by rw [← Nat.pow_add]; congr 1; omega
  simp only [ror32, hn.ne', if_false, h1, BitVec.zero_or, BitVec.toNat_shiftLeft, Nat.shiftLeft_eq]
  exact Nat.mod_eq_of_lt h2

/-- The gathered immediate as a number (R130). -/
theorem toNat_gatheredImmediate (i : BitVec 1) (imm3 : BitVec 3) (imm8 : BitVec 8) :
    (gatheredImmediate i imm3 imm8).toNat = i.toNat * 2048 + imm3.toNat * 256 + imm8.toNat := by
  have h3 := imm3.isLt
  have h8 := imm8.isLt
  have hi := i.isLt
  simp only [gatheredImmediate, BitVec.toNat_setWidth, BitVec.toNat_append]
  rw [← Nat.shiftLeft_add_eq_or_of_lt h3, ← Nat.shiftLeft_add_eq_or_of_lt h8]
  simp only [Nat.shiftLeft_eq]
  omega

/-- The scaled immediate as a number (R131). -/
theorem toNat_scaledImmediate (imm7 : BitVec 7) : (scaledImmediate imm7).toNat = imm7.toNat * 4 := by
  revert imm7; decide
/-- RRX bit by bit (R101). -/
theorem getLsbD_unitRrx (v : Word32) (c : Carry) (i : Nat) (hi : i < 32) :
    (unitRrx v c).1.getLsbD i = if i = 31 then c else v.getLsbD (i + 1) := by
  unfold unitRrx
  erw [BitVec.getLsbD_append]
  split
  · simp [show i ≠ 31 by omega, show i < 31 by omega, Nat.add_comm]
  · have : i = 31 := by omega
    subst this; simp

/-- RRX turns the ring of the carry and the value by one place (R101). -/
theorem rrx_ring (v : Word32) (c : Carry) :
    ((unitRrx v c).1 ++ BitVec.ofBool (unitRrx v c).2 : BitVec 33) = BitVec.ofBool c ++ v := by
  apply BitVec.eq_of_getLsbD_eq
  intro i hi
  rw [BitVec.getLsbD_append, BitVec.getLsbD_append]
  by_cases h0 : i = 0
  · subst h0; simp [unitRrx, carryRrx]
  · have h1 : ¬ i < 1 := by omega
    rw [if_neg h1, getLsbD_unitRrx v c (i - 1) (by omega)]
    by_cases h32 : i < 32
    · simp [h32, show i - 1 ≠ 31 by omega, show i - 1 + 1 = i by omega]
    · have : i = 32 := by omega
      subst this; simp

end Sys2Proof.Machine
end

