-- ==== Sys2Proof/Laws/State.lean ====
section
/-! SUPPORT. What each update of State does to each field, so that no later proof unfolds an update. -/

namespace Sys2Proof.Machine

section Present
variable (s : State) (r : Request)
@[simp] theorem present_inp : (s.present r).inp = r := rfl
@[simp] theorem present_imm7Lsb : (s.present r).imm7Lsb = s.imm7Lsb := rfl
@[simp] theorem present_out : (s.present r).out = s.out := rfl
@[simp] theorem present_freeCount : (s.present r).freeCount = s.freeCount := rfl
end Present

section Respond
variable (s : State) (err : Bool) (errCause : BitVec 3)
@[simp] theorem respond_inp : (s.respond err errCause).inp = s.inp := rfl
@[simp] theorem respond_imm7Lsb : (s.respond err errCause).imm7Lsb = s.imm7Lsb := rfl
@[simp] theorem respond_err : (s.respond err errCause).out.err = err := rfl
@[simp] theorem respond_errCause : (s.respond err errCause).out.errCause = errCause := rfl
@[simp] theorem respond_freeCount : (s.respond err errCause).freeCount = s.freeCount + 1 := rfl
end Respond

section RaiseInvalid
variable (s : State) (c : Cause)
@[simp] theorem raiseInvalid_inp : (s.raiseInvalid c).inp = s.inp := rfl
@[simp] theorem raiseInvalid_imm7Lsb : (s.raiseInvalid c).imm7Lsb = s.imm7Lsb := rfl
@[simp] theorem raiseInvalid_err : (s.raiseInvalid c).out.err = true := rfl
@[simp] theorem raiseInvalid_errCause : (s.raiseInvalid c).out.errCause = causeCode c := rfl
@[simp] theorem raiseInvalid_freeCount : (s.raiseInvalid c).freeCount = s.freeCount + 1 := rfl
end RaiseInvalid

section DriveResult
variable (s : State) (w : Word32)
@[simp] theorem driveResult_inp : (s.driveResult w).inp = s.inp := rfl
@[simp] theorem driveResult_imm7Lsb : (s.driveResult w).imm7Lsb = s.imm7Lsb := rfl
@[simp] theorem driveResult_err : (s.driveResult w).out.err = false := rfl
@[simp] theorem driveResult_errCause : (s.driveResult w).out.errCause = 0 := rfl
@[simp] theorem driveResult_result : (s.driveResult w).out.result = w := rfl
@[simp] theorem driveResult_freeCount : (s.driveResult w).freeCount = s.freeCount + 1 := rfl
end DriveResult

section DriveResultCarry
variable (s : State) (rc : Word32 × Carry)
@[simp] theorem driveResultCarry_inp : (s.driveResultCarry rc).inp = s.inp := rfl
@[simp] theorem driveResultCarry_imm7Lsb : (s.driveResultCarry rc).imm7Lsb = s.imm7Lsb := rfl
@[simp] theorem driveResultCarry_err : (s.driveResultCarry rc).out.err = false := rfl
@[simp] theorem driveResultCarry_errCause : (s.driveResultCarry rc).out.errCause = 0 := rfl
@[simp] theorem driveResultCarry_result : (s.driveResultCarry rc).out.result = rc.1 := rfl
@[simp] theorem driveResultCarry_carryOut : (s.driveResultCarry rc).out.carryOut = rc.2 := rfl
@[simp] theorem driveResultCarry_freeCount : (s.driveResultCarry rc).freeCount = s.freeCount + 1 := rfl
end DriveResultCarry

section DriveKind
variable (s : State) (k : ShiftKind)
@[simp] theorem driveKind_inp : (s.driveKind k).inp = s.inp := rfl
@[simp] theorem driveKind_imm7Lsb : (s.driveKind k).imm7Lsb = s.imm7Lsb := rfl
@[simp] theorem driveKind_err : (s.driveKind k).out.err = false := rfl
@[simp] theorem driveKind_errCause : (s.driveKind k).out.errCause = 0 := rfl
@[simp] theorem driveKind_kindOut : (s.driveKind k).out.kindOut = kindCode k := rfl
@[simp] theorem driveKind_freeCount : (s.driveKind k).freeCount = s.freeCount + 1 := rfl
end DriveKind

section DriveKindAmount
variable (s : State) (op : ShiftKind × Nat)
@[simp] theorem driveKindAmount_inp : (s.driveKindAmount op).inp = s.inp := rfl
@[simp] theorem driveKindAmount_imm7Lsb : (s.driveKindAmount op).imm7Lsb = s.imm7Lsb := rfl
@[simp] theorem driveKindAmount_err : (s.driveKindAmount op).out.err = false := rfl
@[simp] theorem driveKindAmount_errCause : (s.driveKindAmount op).out.errCause = 0 := rfl
@[simp] theorem driveKindAmount_kindOut : (s.driveKindAmount op).out.kindOut = kindCode op.1 := rfl
@[simp] theorem driveKindAmount_amountOut : (s.driveKindAmount op).out.amountOut = BitVec.ofNat 32 op.2 := rfl
@[simp] theorem driveKindAmount_freeCount : (s.driveKindAmount op).freeCount = s.freeCount + 1 := rfl
end DriveKindAmount

end Sys2Proof.Machine
end

