-- ==== Sys2Proof/Laws/Ops.lean ====
section
/-! SUPPORT. What the shared operations can do, said once: an operation's answer, and the shape of every instruction's next
state. -/

namespace Sys2Proof.Machine

@[simp] theorem answer_ok {α : Type} (drive : State → α → State) (a : α) (s : State) :
    answer drive (.ok a) s = .next (drive s a) := rfl

@[simp] theorem answer_error {α : Type} (drive : State → α → State) (c : Cause) (s : State) :
    answer drive (.error c) s = .next (s.raiseInvalid c) := rfl

/-- An answer is the drive of a result or the failure with a cause. -/
theorem answer_cases {α : Type} {drive : State → α → State} {r : Except Cause α} {s t : State}
    (h : answer drive r s = .next t) :
    (∃ a, r = .ok a ∧ t = drive s a) ∨ (∃ c, r = .error c ∧ t = s.raiseInvalid c) := by
  cases r with
  | ok a => exact .inl ⟨a, rfl, by simpa using h.symm⟩
  | error c => exact .inr ⟨c, rfl, by simpa using h.symm⟩

/-- `t` is `s` with another response and the counter advanced: all that a step can change. -/
def Responds (s t : State) : Prop := ∃ o, t = { s with out := o, freeCount := s.freeCount + 1 }

theorem responds_raiseInvalid (s : State) (c : Cause) : Responds s (s.raiseInvalid c) := ⟨_, rfl⟩

theorem responds_driveResult (s : State) (w : Word32) : Responds s (s.driveResult w) := ⟨_, rfl⟩

theorem responds_driveResultCarry (s : State) (rc : Word32 × Carry) : Responds s (s.driveResultCarry rc) := ⟨_, rfl⟩

theorem responds_driveKind (s : State) (k : ShiftKind) : Responds s (s.driveKind k) := ⟨_, rfl⟩

theorem responds_driveKindAmount (s : State) (op : ShiftKind × Nat) : Responds s (s.driveKindAmount op) := ⟨_, rfl⟩

/-- An answer whose drive only responds is a next state that only responds. -/
theorem answer_responds {α : Type} {drive : State → α → State} (hd : ∀ s a, Responds s (drive s a))
    (r : Except Cause α) (s : State) : ∃ t, answer drive r s = .next t ∧ Responds s t := by
  cases r with
  | ok a => exact ⟨_, rfl, hd s a⟩
  | error c => exact ⟨_, rfl, responds_raiseInvalid s c⟩

/-- Every instruction is answered with a next state that differs in the response and the counter only. -/
theorem exec_responds (i : Instr) (s : State) : ∃ t, exec i s = .next t ∧ Responds s t := by
  cases i
  case decodeImmShift => exact answer_responds responds_driveKindAmount _ s
  case decodeRegShift => exact answer_responds responds_driveKind _ s
  case applyShiftWithCarry | expandImmediateA | expandImmediateB | kindLsl | kindLsr | kindAsr | kindRor | kindRrx =>
    exact answer_responds responds_driveResultCarry _ s
  case applyShift | extractBits | extractBit => exact answer_responds responds_driveResult _ s
  all_goals exact ⟨_, rfl, _, rfl⟩

/-- The causes have the codes 1 to 7, so a failure is told from a success by its cause (R156). -/
@[simp] theorem causeCode_ne_zero (c : Cause) : causeCode c ≠ 0#3 := by cases c <;> decide

theorem kindOfCode_kindCode (k : ShiftKind) : kindOfCode (kindCode k) = some k := by cases k <;> rfl

theorem kindCode_le (k : ShiftKind) : (kindCode k).toNat ≤ 4 := by cases k <;> decide

/-- A request goes on only from a response without failure. -/
@[simp] theorem thenAsk_next_ok {t : State} (next : Response → Instr) (h : t.out.err = false) :
    thenAsk (.next t) next = ask (next t.out) t := by simp [thenAsk, h]

@[simp] theorem thenAsk_next_err {t : State} (next : Response → Instr) (h : t.out.err = true) :
    thenAsk (.next t) next = .next t := by simp [thenAsk, h]

end Sys2Proof.Machine
end

