-- ==== Sys2Proof/Laws/Failure.lean ====
section
/-! SUPPORT. When each operation fails and with which cause code, and that what may be read of a response depends on the
instruction and the parameter alone. -/

namespace Sys2Proof.Machine

/-- The cause code of an operation's outcome; 0 where it does not fail. -/
def failureCode {α : Type} : Except Cause α → BitVec 3
  | .ok _ => 0#3
  | .error c => causeCode c

@[simp] theorem failureCode_ok {α : Type} (a : α) : failureCode (.ok a : Except Cause α) = 0#3 := rfl

@[simp] theorem failureCode_error {α : Type} (c : Cause) : failureCode (.error c : Except Cause α) = causeCode c := rfl

@[simp] theorem failureCode_ite {α : Type} (p : Prop) [Decidable p] (a b : Except Cause α) :
    failureCode (if p then a else b) = if p then failureCode a else failureCode b := by split <;> rfl

/-- An answer's `err_cause` is the outcome's code, and `err` says whether there is one. -/
theorem answer_code {α : Type} {drive : State → α → State} {r : Except Cause α} {s t : State}
    (hd : ∀ s a, (drive s a).out.err = false ∧ (drive s a).out.errCause = 0#3) (h : answer drive r s = .next t) :
    t.out.errCause = failureCode r ∧ (t.out.err = true ↔ failureCode r ≠ 0#3) := by
  obtain ⟨a, rfl, rfl⟩ | ⟨c, rfl, rfl⟩ := answer_cases h
  · simp [hd]
  · simp

theorem decodeImmShift_code (typeCode imm5 : Nat) :
    failureCode (decodeImmShift typeCode imm5) = if 3 < typeCode then 1#3 else if 31 < imm5 then 5#3 else 0#3 := by
  simp [decodeImmShift, causeCode]

theorem decodeRegShift_eq (typeCode : Nat) :
    decodeRegShift typeCode =
      if typeCode = 0 then .ok .lsl else if typeCode = 1 then .ok .lsr else if typeCode = 2 then .ok .asr
      else if typeCode = 3 then .ok .ror else .error .badShiftType := by
  unfold decodeRegShift
  split <;> simp_all

theorem decodeRegShift_code (typeCode : Nat) :
    failureCode (decodeRegShift typeCode) = if 3 < typeCode then 1#3 else 0#3 := by
  simp only [decodeRegShift_eq, failureCode_ite, failureCode_ok, failureCode_error, causeCode]
  split_ifs <;> first | rfl | omega

theorem applyShiftWithCarry_code (v : Word32) (k : ShiftKind) (n : Nat) (c : Carry) :
    failureCode (applyShiftWithCarry v k n c) =
      if k = .rrx then (if n = 1 then 0#3 else 3#3) else if maxAmount k < n then 4#3 else 0#3 := by
  simp only [applyShiftWithCarry, failureCode_ite, failureCode_ok, failureCode_error, causeCode]
  split_ifs <;> first | rfl | omega

theorem applyShiftCode_of_kind {code : BitVec 3} {k : ShiftKind} (h : kindOfCode code = some k) (v : Word32) (n : Nat)
    (c : Carry) : applyShiftCode v code n c = applyShiftWithCarry v k n c := by simp [applyShiftCode, h]

theorem applyShiftCode_of_none {code : BitVec 3} (h : kindOfCode code = none) (v : Word32) (n : Nat) (c : Carry) :
    applyShiftCode v code n c = .error .badKind := by simp [applyShiftCode, h]

/-- The five codes that are kinds and the three that are not (R57). -/
theorem kindOfCode_eq (code : BitVec 3) :
    kindOfCode code =
      if code = 0#3 then some .lsl else if code = 1#3 then some .lsr else if code = 2#3 then some .asr
      else if code = 3#3 then some .ror else if code = 4#3 then some .rrx else none := by
  revert code; decide

theorem applyShift_code (v : Word32) (code : BitVec 3) (n : Nat) (c : Carry) :
    failureCode (applyShift v code n c) = failureCode (applyShiftCode v code n c) := by
  unfold applyShift
  cases applyShiftCode v code n c <;> rfl

theorem expandImmediateA_code (f : Nat) (c : Carry) :
    failureCode (expandImmediateA f c) = if 4095 < f then 5#3 else 0#3 := by
  simp [expandImmediateA, causeCode]

theorem expandImmediateB_code (f : Nat) (c : Carry) :
    failureCode (expandImmediateB f c) = if 4095 < f then 5#3 else 0#3 := by
  simp [expandImmediateB, causeCode]

theorem extractBits_code (v : Word32) (hi lo : Nat) :
    failureCode (extractBits v hi lo) = if 31 < hi ∨ 31 < lo ∨ hi < lo then 2#3 else 0#3 := by
  simp [extractBits, causeCode]

/-- What may be read of an answer depends on the outcome alone. -/
theorem answer_readable {α : Type} {drive : State → α → State} {r : Except Cause α} {d : Drives} {s s' t t' : State}
    (hd : ∀ a, (drive s a).out.readable d = (drive s' a).out.readable d) (h : answer drive r s = .next t)
    (h' : answer drive r s' = .next t') : t.out.readable d = t'.out.readable d := by
  cases r with
  | ok a => cases h; cases h'; exact hd a
  | error c => cases h; cases h'; rfl

/-- What may be read of a response depends on the instruction and on the parameter `IMM7_LSB` alone. -/
theorem exec_readable {i : Instr} {s s' t t' : State} (hl : s.imm7Lsb = s'.imm7Lsb) (h : exec i s = .next t)
    (h' : exec i s' = .next t') : t.out.readable (drivesOf i) = t'.out.readable (drivesOf i) := by
  cases i
  case decodeImmShift => exact answer_readable (drive := State.driveKindAmount) (s := s) (s' := s') (fun _ => rfl) h h'
  case decodeRegShift => exact answer_readable (drive := State.driveKind) (s := s) (s' := s') (fun _ => rfl) h h'
  case applyShiftWithCarry | expandImmediateA | expandImmediateB | kindLsl | kindLsr | kindAsr | kindRor | kindRrx =>
    exact answer_readable (drive := State.driveResultCarry) (s := s) (s' := s') (fun _ => rfl) h h'
  case applyShift | extractBits | extractBit =>
    exact answer_readable (drive := State.driveResult) (s := s) (s' := s') (fun _ => rfl) h h'
  case scaledImmediate7 w =>
    have e : .next (s.driveResult (scaledImmediate7 s.imm7Lsb w)) = Host.Outcome.next t := h
    have e' : .next (s'.driveResult (scaledImmediate7 s'.imm7Lsb w)) = Host.Outcome.next t' := h'
    cases e; cases e'; rw [hl]; rfl
  all_goals (cases h; cases h'; rfl)

end Sys2Proof.Machine
end

