-- ==== Sys2Proof/Laws/PerInstr.lean ====
section
/-! SUPPORT. The per-instruction family RoundTrip: decoding what the encoder writes gives the instruction back. -/

namespace Sys2Proof.Laws.RoundTrip

/-- Decoding the request that presents a well-formed instruction gives it back, with every operand. -/
def Statement (i : Instr) : Prop := i.wf = true → decode (encode i) = i

theorem decodeImmShift (typeCode imm5 : Word32) : Statement (.decodeImmShift typeCode imm5) := fun _ => rfl

theorem decodeRegShift (typeCode : Word32) : Statement (.decodeRegShift typeCode) := fun _ => rfl

theorem applyShiftWithCarry (value : Word32) (kind : BitVec 3) (amount : Word32) (carryIn : Carry) : Statement (.applyShiftWithCarry value kind amount carryIn) :=
  fun _ => rfl

theorem applyShift (value : Word32) (kind : BitVec 3) (amount : Word32) (carryIn : Carry) : Statement (.applyShift value kind amount carryIn) :=
  fun _ => rfl

theorem expandImmediateA (field12 : Word32) (carryIn : Carry) : Statement (.expandImmediateA field12 carryIn) :=
  fun _ => rfl

theorem expandImmediateB (field12 : Word32) (carryIn : Carry) : Statement (.expandImmediateB field12 carryIn) :=
  fun _ => rfl

theorem zeroExtendScatteredImmediate12 (word : Word32) : Statement (.zeroExtendScatteredImmediate12 word) :=
  fun _ => rfl

theorem scaledImmediate7 (word : Word32) : Statement (.scaledImmediate7 word) := fun _ => rfl

theorem extractBits (value highBit lowBit : Word32) : Statement (.extractBits value highBit lowBit) := fun _ => rfl

theorem extractBit (value bitIndex : Word32) : Statement (.extractBit value bitIndex) := fun _ => rfl

theorem isRestrictedRegister (regNum : Word32) : Statement (.isRestrictedRegister regNum) := fun _ => rfl

theorem unknownOpB : Statement (.unknownOpB) := fun _ => rfl

theorem unknownOpC : Statement (.unknownOpC) := fun _ => rfl

theorem unknownOpD : Statement (.unknownOpD) := fun _ => rfl

theorem unknownOpE : Statement (.unknownOpE) := fun _ => rfl

theorem unknownOpF : Statement (.unknownOpF) := fun _ => rfl

theorem kindLsl (value amount : Word32) (carryIn : Carry) : Statement (.kindLsl value amount carryIn) := fun _ => rfl

theorem kindLsr (value amount : Word32) (carryIn : Carry) : Statement (.kindLsr value amount carryIn) := fun _ => rfl

theorem kindAsr (value amount : Word32) (carryIn : Carry) : Statement (.kindAsr value amount carryIn) := fun _ => rfl

theorem kindRor (value amount : Word32) (carryIn : Carry) : Statement (.kindRor value amount carryIn) := fun _ => rfl

theorem kindRrx (value amount : Word32) (carryIn : Carry) : Statement (.kindRrx value amount carryIn) := fun _ => rfl

theorem badKind5 : Statement (.badKind5) := fun _ => rfl

theorem badKind6 : Statement (.badKind6) := fun _ => rfl

theorem badKind7 : Statement (.badKind7) := fun _ => rfl

theorem selLslImm (imm5 : BitVec 5) : Statement (.selLslImm imm5) := by
  unfold Statement
  revert imm5
  decide

theorem selLsr32 : Statement (.selLsr32) := fun _ => rfl

theorem selLsrImm (imm5 : BitVec 5) : Statement (.selLsrImm imm5) := by
  unfold Statement
  revert imm5
  decide

theorem selAsr32 : Statement (.selAsr32) := fun _ => rfl

theorem selAsrImm (imm5 : BitVec 5) : Statement (.selAsrImm imm5) := by
  unfold Statement
  revert imm5
  decide

theorem selRrx : Statement (.selRrx) := fun _ => rfl

theorem selRorImm (imm5 : BitVec 5) : Statement (.selRorImm imm5) := by
  unfold Statement
  revert imm5
  decide

theorem selLslReg : Statement (.selLslReg) := fun _ => rfl

theorem selLsrReg : Statement (.selLsrReg) := fun _ => rfl

theorem selAsrReg : Statement (.selAsrReg) := fun _ => rfl

theorem selRorReg : Statement (.selRorReg) := fun _ => rfl

theorem immAUnrotated (imm : BitVec 8) (carryIn : Carry) : Statement (.immAUnrotated imm carryIn) := fun _ =>
  decodeImm12A_append 0b0000#4 imm carryIn

theorem immARotated (rotateSelector : BitVec 4) (imm : BitVec 8) : Statement (.immARotated rotateSelector imm) :=
  fun h =>
    (decodeImm12A_append rotateSelector imm false).trans (if_neg (by simpa [Instr.wf] using h))

theorem immBPlain (byte : BitVec 8) (carryIn : Carry) : Statement (.immBPlain byte carryIn) := fun _ =>
  (decodeImm12B_replicated 0b0000#4 byte carryIn rfl).trans (decodeImm12BReplicated_append 0b0000#4 byte carryIn)

theorem immBEven (byte : BitVec 8) (carryIn : Carry) : Statement (.immBEven byte carryIn) := fun _ =>
  (decodeImm12B_replicated 0b0001#4 byte carryIn rfl).trans (decodeImm12BReplicated_append 0b0001#4 byte carryIn)

theorem immBOdd (byte : BitVec 8) (carryIn : Carry) : Statement (.immBOdd byte carryIn) := fun _ =>
  (decodeImm12B_replicated 0b0010#4 byte carryIn rfl).trans (decodeImm12BReplicated_append 0b0010#4 byte carryIn)

theorem immBAll (byte : BitVec 8) (carryIn : Carry) : Statement (.immBAll byte carryIn) := fun _ =>
  (decodeImm12B_replicated 0b0011#4 byte carryIn rfl).trans (decodeImm12BReplicated_append 0b0011#4 byte carryIn)

theorem immBRotated8 (rotateAmount : BitVec 5) (low7 : BitVec 7) : Statement (.immBRotated8 rotateAmount low7) := by
  intro h
  have h2 : rotateAmount.extractLsb' 3 2 = 0b01#2 := by simpa [Instr.wf, rotateInRow] using h
  refine (decodeImm12B_append rotateAmount low7 false).trans ?_
  rw [h2]
  rfl

theorem immBRotated16 (rotateAmount : BitVec 5) (low7 : BitVec 7) : Statement (.immBRotated16 rotateAmount low7) := by
  intro h
  have h2 : rotateAmount.extractLsb' 3 2 = 0b10#2 := by simpa [Instr.wf, rotateInRow] using h
  refine (decodeImm12B_append rotateAmount low7 false).trans ?_
  rw [h2]
  rfl

theorem immBRotated24 (rotateAmount : BitVec 5) (low7 : BitVec 7) : Statement (.immBRotated24 rotateAmount low7) := by
  intro h
  have h2 : rotateAmount.extractLsb' 3 2 = 0b11#2 := by simpa [Instr.wf, rotateInRow] using h
  refine (decodeImm12B_append rotateAmount low7 false).trans ?_
  rw [h2]
  rfl

theorem gatherWord (i : BitVec 1) (imm3 : BitVec 3) (byte : BitVec 8) : Statement (.gatherWord i imm3 byte) := by
  obtain ⟨h1, h2, h3⟩ := gatherWordBits_fields i imm3 byte
  exact fun _ => congr (congr (congrArg Instr.gatherWord h1) h2) h3

theorem imm7Word (imm7 : BitVec 7) : Statement (.imm7Word imm7) :=
  fun _ => congrArg Instr.imm7Word (extractLsb'_append_lower 0#25 imm7)

end Sys2Proof.Laws.RoundTrip
end

