-- ==== Sys2Proof/Tests/Slice0.lean ====
section
/-! SUPPORT. Tests: the well-formedness checks, words written out from 30_encoding.md, one step on values of
95_test_vectors.md or of the rules' own examples, and a witness for every hypothesis of the obligations. -/

namespace Sys2Proof.Tests

open Sys2Proof Sys2Proof.Machine

/-- What a caller reads of the answer to an instruction's request, presented right after reset. -/
def readOf (i : Instr) : Option Readable :=
  match step (State.reset.present (encode i)) with
  | .next t => some t.readable
  | .fault _ => none
  | .refused _ => none

/-- The answer of an operation that drives `result` and `carry_out`. -/
def bothAre (result : Word32) (carryOut : Carry) : Option Readable :=
  some ⟨false, 0, some result, some carryOut, none, none⟩

/-- The answer of an operation that drives `result` alone. -/
def resultIs (result : Word32) : Option Readable := some ⟨false, 0, some result, none, none, none⟩

/-- The answer of an operation that drives `kind_out`, and `amount_out` where it drives it. -/
def kindIs (kind : BitVec 3) (amount : Option Word32) : Option Readable :=
  some ⟨false, 0, none, none, some kind, amount⟩

/-- The failure with a cause code. -/
def failsWith (code : BitVec 3) : Option Readable := some ⟨true, code, none, none, none, none⟩

/-! ### Well-formedness: an ill-formed term for each check -/

theorem test_wf_lsr_imm_zero : (Instr.selLsrImm 0).wf = false := by decide
theorem test_wf_asr_imm_zero : (Instr.selAsrImm 0).wf = false := by decide
theorem test_wf_ror_imm_zero : (Instr.selRorImm 0).wf = false := by decide
theorem test_wf_rotated_a_selector_zero : (Instr.immARotated 0 0xFF).wf = false := by decide
theorem test_wf_rotated8_top_bits : (Instr.immBRotated8 16 0).wf = false := by decide
theorem test_wf_rotated16_top_bits : (Instr.immBRotated16 15 0).wf = false := by decide
theorem test_wf_rotated24_top_bits : (Instr.immBRotated24 23 0).wf = false := by decide
theorem test_wf_boundaries : (Instr.selLsrImm 1).wf = true ∧ (Instr.immARotated 15 0).wf = true ∧
    (Instr.immBRotated8 8 0).wf = true ∧ (Instr.immBRotated16 23 0).wf = true ∧ (Instr.immBRotated24 31 0).wf = true := by
  decide

/-! ### Decoding: words written out bit by bit (R55 to R63) -/

/-- A request whose ports all hold different values, so that a swapped port shows. -/
def ports (op : BitVec 4) : Request :=
  { op := op, value := 1, typeCode := 2, imm5 := 3, kind := 4, amount := 5, carryIn := true, field12 := 6
    highBit := 7, lowBit := 8, regNum := 9, pattern := none }

theorem test_decode_ops_0_to_5 :
    decode (ports 0b0000) = .decodeImmShift 2 3 ∧ decode (ports 0b0001) = .decodeRegShift 2 ∧
    decode (ports 0b0010) = .applyShiftWithCarry 1 4 5 true ∧ decode (ports 0b0011) = .applyShift 1 4 5 true ∧
    decode (ports 0b0100) = .expandImmediateA 6 true ∧ decode (ports 0b0101) = .expandImmediateB 6 true := by decide

theorem test_decode_ops_6_to_a :
    decode (ports 0b0110) = .zeroExtendScatteredImmediate12 1 ∧ decode (ports 0b0111) = .scaledImmediate7 1 ∧
    decode (ports 0b1000) = .extractBits 1 7 8 ∧ decode (ports 0b1001) = .extractBit 1 7 ∧
    decode (ports 0b1010) = .isRestrictedRegister 9 := by decide

theorem test_decode_ops_b_to_f :
    decode (ports 0b1011) = .unknownOpB ∧ decode (ports 0b1100) = .unknownOpC ∧ decode (ports 0b1101) = .unknownOpD ∧
    decode (ports 0b1110) = .unknownOpE ∧ decode (ports 0b1111) = .unknownOpF := by decide

theorem test_decode_kinds :
    decode (.ofKind 0b000 1 2 true) = .kindLsl 1 2 true ∧ decode (.ofKind 0b001 1 2 true) = .kindLsr 1 2 true ∧
    decode (.ofKind 0b010 1 2 true) = .kindAsr 1 2 true ∧ decode (.ofKind 0b011 1 2 true) = .kindRor 1 2 true ∧
    decode (.ofKind 0b100 1 2 true) = .kindRrx 1 2 true ∧ decode (.ofKind 0b101 1 2 true) = .badKind5 ∧
    decode (.ofKind 0b110 1 2 true) = .badKind6 ∧ decode (.ofKind 0b111 1 2 true) = .badKind7 := by decide

theorem test_decode_shift_imm_sel :
    decode (.ofPattern (.shiftImmSel 0b0010110)) = .selLslImm 0b10110 ∧
    decode (.ofPattern (.shiftImmSel 0b0100000)) = .selLsr32 ∧
    decode (.ofPattern (.shiftImmSel 0b0100001)) = .selLsrImm 0b00001 ∧
    decode (.ofPattern (.shiftImmSel 0b1000000)) = .selAsr32 ∧
    decode (.ofPattern (.shiftImmSel 0b1011111)) = .selAsrImm 0b11111 ∧
    decode (.ofPattern (.shiftImmSel 0b1100000)) = .selRrx ∧
    decode (.ofPattern (.shiftImmSel 0b1110001)) = .selRorImm 0b10001 := by decide

theorem test_decode_shift_reg_sel :
    decode (.ofPattern (.shiftRegSel 0b00)) = .selLslReg ∧ decode (.ofPattern (.shiftRegSel 0b01)) = .selLsrReg ∧
    decode (.ofPattern (.shiftRegSel 0b10)) = .selAsrReg ∧ decode (.ofPattern (.shiftRegSel 0b11)) = .selRorReg := by
  decide

theorem test_decode_imm12_a :
    decode (.ofPattern (.imm12A 0b000010100101)) = .immAUnrotated 0b10100101 false ∧
    decode (.ofPattern (.imm12A 0b110110100101)) = .immARotated 0b1101 0b10100101 := by decide

theorem test_decode_imm12_b_replicated :
    decode (.ofPattern (.imm12B 0b000011001010)) = .immBPlain 0b11001010 false ∧
    decode (.ofPattern (.imm12B 0b000111001010)) = .immBEven 0b11001010 false ∧
    decode (.ofPattern (.imm12B 0b001011001010)) = .immBOdd 0b11001010 false ∧
    decode (.ofPattern (.imm12B 0b001111001010)) = .immBAll 0b11001010 false := by decide

theorem test_decode_imm12_b_rotated :
    decode (.ofPattern (.imm12B 0b010111010011)) = .immBRotated8 0b01011 0b1010011 ∧
    decode (.ofPattern (.imm12B 0b100011010011)) = .immBRotated16 0b10001 0b1010011 ∧
    decode (.ofPattern (.imm12B 0b111101010011)) = .immBRotated24 0b11110 0b1010011 := by decide

/-- The unread bits of both words are 1. -/
theorem test_decode_words :
    decode (.ofPattern (.wordGather 0b11111111111111111101111100010010)) = .gatherWord 0b1 0b101 0b00010010 ∧
    decode (.ofPattern (.wordGather 0b11111011111111111010111111101101)) = .gatherWord 0b0 0b010 0b11101101 ∧
    decode (.ofPattern (.wordImm7 0b11111111111111111111111110101101)) = .imm7Word 0b0101101 := by decide

/-- Table words (log entry 10): an op code, a selector, a field and a word, and words that are none. -/
theorem test_decode_table_words :
    decodeTableWord 8 0xB = some .unknownOpB ∧ decodeTableWord 8 0b1100000 = some .selRrx ∧
    decodeTableWord 16 0x3FF = some (.immBAll 0xFF false) ∧
    decodeTableWord 32 0x04007012 = some (.gatherWord 1 7 0x12) ∧
    decodeTableWord 8 128 = none ∧ decodeTableWord 16 4096 = none ∧ decodeTableWord 40 0 = none := by decide

/-- The very next step runs the table word's instruction (log entry 11). -/
theorem test_fetch_word_runs (s : State) (nbits w : Nat) (i : Instr) (h : decodeTableWord nbits w = some i) :
    step (s.withFetchWord nbits w) = exec i (s.withFetchWord nbits w) := by
  cases hr : requestOfTableWord nbits w with
  | error e => simp [decodeTableWord, hr] at h
  | ok r =>
    have e : s.withFetchWord nbits w = s.present r := by simp [State.withFetchWord, hr]
    have hi : decode r = i := by simpa [decodeTableWord, hr] using h
    rw [e, ← hi]
    rfl

/-! ### Reset -/

/-- The first step after reset answers `DecodeImmShift(0, 0) = (LSL, 0)` (log entry 11). -/
theorem test_first_step :
    (match step State.reset with
      | .next t => some t.readable
      | .fault _ => none
      | .refused _ => none) = kindIs 0b000 (some 0) := by decide

/-! ### One step each: 95_test_vectors.md -/

/-- E1. -/
theorem test_decode_imm_shift : readOf (.decodeImmShift 1 0) = kindIs 0b001 (some 32) ∧
    readOf (.decodeImmShift 3 0) = kindIs 0b100 (some 1) ∧ readOf (.decodeImmShift 3 5) = kindIs 0b011 (some 5) := by decide

/-- E7 and R85: both operands wrong reports the first check. -/
theorem test_decode_imm_shift_fails : readOf (.decodeImmShift 4 32) = failsWith 1 ∧
    readOf (.decodeImmShift 3 32) = failsWith 5 := by decide

/-- Section 2.2. -/
theorem test_decode_reg_shift : readOf (.decodeRegShift 3) = kindIs 0b011 none ∧
    readOf (.decodeRegShift 4294967295) = failsWith 1 := by decide

/-- Section 2.3: LSL wraps; LSR and ASR by 32. -/
theorem test_apply_lsl_lsr_asr :
    readOf (.applyShiftWithCarry 0xDEADBEEF 0b000 4 false) = bothAre 0xEADBEEF0 true ∧
    readOf (.applyShiftWithCarry 0x80000001 0b001 32 false) = bothAre 0 true ∧
    readOf (.applyShiftWithCarry 0x80000000 0b010 4 false) = bothAre 0xF8000000 false := by decide

/-- Section 2.3: a row of ROR marked `differs`, RRX, and amount 0. -/
theorem test_apply_ror_rrx_zero :
    readOf (.applyShiftWithCarry 0x12345678 0b011 4 true) = bothAre 0x81234567 false ∧
    readOf (.applyShiftWithCarry 0x00000003 0b100 1 true) = bothAre 0x80000001 true ∧
    readOf (.applyShiftWithCarry 0x80000001 0b000 0 false) = bothAre 0x80000001 false := by decide

/-- Section 2.4. -/
theorem test_apply_shift : readOf (.applyShift 0xDEADBEEF 0b011 8 false) = resultIs 0xEFDEADBE ∧
    readOf (.applyShift 0xDEADBEEF 0b100 0 true) = failsWith 3 := by decide

/-- E4, and section 2.5: a wrapped rotation and a rotation of zero that loses the carry. -/
theorem test_expand_a : readOf (.expandImmediateA 0x4FF false) = bothAre 0xFF000000 true ∧
    readOf (.expandImmediateA 0x3A5 false) = bothAre 0x94000002 true ∧
    readOf (.expandImmediateA 0x100 true) = bothAre 0 false ∧
    readOf (.expandImmediateA 0x1000 false) = failsWith 5 := by decide

/-- E5, and section 2.6: the replicated form that looks rotated, and the last rotated form. -/
theorem test_expand_b : readOf (.expandImmediateB 0x400 false) = bothAre 0x80000000 true ∧
    readOf (.expandImmediateB 0x3FF true) = bothAre 0xFFFFFFFF true ∧
    readOf (.expandImmediateB 0xFFF true) = bothAre 0x000001FE false ∧
    readOf (.expandImmediateB 0x80000400 false) = failsWith 5 := by decide

/-- Section 2.7. -/
theorem test_gather : readOf (.zeroExtendScatteredImmediate12 0x04007012) = resultIs 0xF12 ∧
    readOf (.zeroExtendScatteredImmediate12 0xFBFF8F00) = resultIs 0 := by decide

/-- Section 2.7: `IMM7_LSB` = 0, as it is at reset. -/
theorem test_scaled : readOf (.scaledImmediate7 0x0000B082) = resultIs 8 ∧
    readOf (.scaledImmediate7 0xFFFFFFFF) = resultIs 508 := by decide

/-- Section 2.8. -/
theorem test_extract_bits : readOf (.extractBits 0xDEADBEEF 30 1) = resultIs 0x2F56DF77 ∧
    readOf (.extractBits 0xDEADBEEF 31 0) = resultIs 0xDEADBEEF ∧
    readOf (.extractBits 0xDEADBEEF 12 14) = failsWith 2 := by decide

/-- Section 2.8. -/
theorem test_extract_bit : readOf (.extractBit 0x04000000 26) = resultIs 1 ∧
    readOf (.extractBit 0xDEADBEEF 32) = failsWith 2 := by decide

/-- Section 2.8. -/
theorem test_restricted : readOf (.isRestrictedRegister 15) = resultIs 1 ∧
    readOf (.isRestrictedRegister 29) = resultIs 0 := by decide

/-- R56. -/
theorem test_unknown_ops : [Instr.unknownOpB, .unknownOpC, .unknownOpD, .unknownOpE, .unknownOpF].map readOf =
    List.replicate 5 (failsWith 7) := by decide

/-- Section 2.3, the units' rows. -/
theorem test_kind_rows : readOf (.kindLsl 0x40000001 2 false) = bothAre 0x00000004 true ∧
    readOf (.kindLsr 0x00000003 1 false) = bothAre 1 true ∧ readOf (.kindAsr 0x7FFFFFFF 32 false) = bothAre 0 false ∧
    readOf (.kindRor 0x80000000 1 false) = bothAre 0x40000000 true ∧
    readOf (.kindRrx 0xFFFFFFFF 1 false) = bothAre 0x7FFFFFFF true := by decide

/-- Section 2.3: the nearest rejected amounts, and R57's codes that are no kind. -/
theorem test_kind_rows_fail : readOf (.kindLsl 1 32 false) = failsWith 4 ∧ readOf (.kindLsr 1 33 false) = failsWith 4 ∧
    readOf (.kindAsr 1 33 false) = failsWith 4 ∧ readOf (.kindRor 1 32 false) = failsWith 4 ∧
    readOf (.kindRrx 1 2 false) = failsWith 3 ∧
    [Instr.badKind5, .badKind6, .badKind7].map readOf = List.replicate 3 (failsWith 6) := by decide

/-- The rows of R58. -/
theorem test_shift_imm_sel_rows : readOf (.selLslImm 31) = kindIs 0b000 (some 31) ∧
    readOf .selLsr32 = kindIs 0b001 (some 32) ∧ readOf (.selLsrImm 1) = kindIs 0b001 (some 1) ∧
    readOf .selAsr32 = kindIs 0b010 (some 32) ∧ readOf (.selAsrImm 31) = kindIs 0b010 (some 31) ∧
    readOf .selRrx = kindIs 0b100 (some 1) ∧ readOf (.selRorImm 5) = kindIs 0b011 (some 5) := by decide

/-- The rows of R59. -/
theorem test_shift_reg_sel_rows : readOf .selLslReg = kindIs 0b000 none ∧ readOf .selLsrReg = kindIs 0b001 none ∧
    readOf .selAsrReg = kindIs 0b010 none ∧ readOf .selRorReg = kindIs 0b011 none := by decide

/-- The rows of R60: section 2.5. -/
theorem test_imm_a_rows : readOf (.immAUnrotated 0xA5 true) = bothAre 0x000000A5 true ∧
    readOf (.immARotated 3 0xA5) = bothAre 0x94000002 true ∧
    readOf (.immARotated 15 0xFF) = bothAre 0x000003FC false := by decide

/-- The rows of R61: section 2.6. -/
theorem test_imm_b_replicated_rows : readOf (.immBPlain 0xAB true) = bothAre 0x000000AB true ∧
    readOf (.immBEven 0xAB false) = bothAre 0x00AB00AB false ∧ readOf (.immBOdd 0xAB true) = bothAre 0xAB00AB00 true ∧
    readOf (.immBAll 0xAB false) = bothAre 0xABABABAB false := by decide

/-- The rows of R61: section 2.6. -/
theorem test_imm_b_rotated_rows : readOf (.immBRotated8 8 0x55) = bothAre 0xD5000000 true ∧
    readOf (.immBRotated8 9 0x55) = bothAre 0x6A800000 false ∧ readOf (.immBRotated16 16 0x55) = bothAre 0x00D50000 false ∧
    readOf (.immBRotated24 31 0x55) = bothAre 0x000001AA false := by decide

/-- The rows of R62 and R63: section 2.7. -/
theorem test_word_rows : readOf (.gatherWord 1 7 0x12) = resultIs 0xF12 ∧ readOf (.imm7Word 0x7F) = resultIs 508 := by decide

/-- R131 with the parameter at its other end, 25: word bits 31..25, all 1, times 4. -/
theorem test_scaled_top_field :
    (match exec (.scaledImmediate7 0xFE000000) { State.reset with imm7Lsb := 25 } with
      | .next t => some t.out.result
      | .fault _ => none
      | .refused _ => none) = some 508 := by decide

/-! ### Witnesses: inputs that meet each obligation's hypotheses, clause by clause, at the ends of the ranges -/

/-- StepRunsTheDecodedRequest, DecodeEncodeRoundTrip. -/
theorem witness_well_formed : (Instr.selRorImm 31).wf = true ∧ (Instr.immARotated 1 0).wf = true ∧
    (Instr.immBRotated24 24 0x7F).wf = true := by decide

/-- OpCodeSelectsTheOperation: every op code on a request of the ports. -/
theorem witness_op_codes : (ports 0x0).pattern = none ∧ (ports 0x0).op = 0x0 ∧ (ports 0x1).op = 0x1 ∧ (ports 0x2).op = 0x2 ∧
    (ports 0x3).op = 0x3 ∧ (ports 0x4).op = 0x4 ∧ (ports 0x5).op = 0x5 ∧ (ports 0x6).op = 0x6 ∧ (ports 0x7).op = 0x7 ∧
    (ports 0x8).op = 0x8 ∧ (ports 0x9).op = 0x9 ∧ (ports 0xA).op = 0xA ∧ (ports 0xB).op = 0xB ∧ (ports 0xC).op = 0xC ∧
    (ports 0xD).op = 0xD ∧ (ports 0xE).op = 0xE ∧ (ports 0xF).op = 0xF := by decide

/-- UnreadPortsNeverMatter: DecodeRegShift with every port but `type_code` different. -/
theorem witness_unread_ports :
    ∃ s s' t t' : State, s.inp.pattern = none ∧ s'.inp.pattern = none ∧ SameReadPorts s.inp s'.inp ∧ s.inp ≠ s'.inp ∧
      s.imm7Lsb = s'.imm7Lsb ∧ step s = .next t ∧ step s' = .next t' :=
  ⟨State.reset.present (ports 0x1), State.reset.present { Request.idle with op := 0x1, typeCode := 2 }, _, _, rfl, rfl,
    ⟨rfl, rfl⟩, by decide, rfl, rfl, rfl⟩

/-- ResponsesIgnoreEarlierRequests: the earlier request fails. -/
theorem witness_earlier_request :
    ∃ (r r' : Request) (s t u v : State), step (s.present r) = .next t ∧ t.out.err = true ∧
      step (t.present r') = .next u ∧ step (s.present r') = .next v :=
  ⟨ports 0xB, ports 0x1, State.reset, _, _, _, rfl, rfl, rfl, rfl⟩

/-- PatternRequestsAgreeWithTheirOperation: a pattern, and the one that the premise on the parameter is for. -/
theorem witness_pattern_requests :
    (∃ s t t' : State, s.inp.pattern = some (.shiftImmSel 0b1100000) ∧ step s = .next t ∧
      step (s.present (portRequestOf s.inp)) = .next t') ∧
    ∃ s t t' : State, s.inp.pattern = some (.wordImm7 0x7F) ∧ s.imm7Lsb = 0 ∧ step s = .next t ∧
      step (s.present (portRequestOf s.inp)) = .next t' :=
  ⟨⟨State.reset.present (.ofPattern (.shiftImmSel 0b1100000)), _, _, rfl, rfl, rfl⟩,
    State.reset.present (.ofPattern (.wordImm7 0x7F)), _, _, rfl, rfl, rfl, rfl⟩

/-- RejectedInputsAreExactlyTheTable: a request for each code of R67, and one that is accepted. -/
theorem witness_rejected_inputs :
    rejectionCode { Request.idle with op := 0x1, typeCode := 4 } = 1 ∧
    rejectionCode { Request.idle with op := 0x8, highBit := 31, lowBit := 32 } = 2 ∧
    rejectionCode { Request.idle with op := 0x3, kind := 4 } = 3 ∧
    rejectionCode { Request.idle with op := 0x2, kind := 1, amount := 33 } = 4 ∧
    rejectionCode { Request.idle with op := 0x4, field12 := 4096 } = 5 ∧
    rejectionCode { Request.idle with op := 0x2, kind := 5 } = 6 ∧ rejectionCode (ports 0xB) = 7 ∧
    rejectionCode { Request.idle with op := 0x2, kind := 2, amount := 32 } = 0 ∧
    ∃ t, step (State.reset.present (ports 0xB)) = .next t := ⟨by decide, by decide, by decide, by decide, by decide,
  by decide, by decide, by decide, _, rfl⟩

/-- UnknownOpCodesFail: the first and the last code. -/
theorem witness_unknown_ops :
    ∃ s t s' t' : State, s.inp.pattern = none ∧ s.inp.op = 0xB ∧ 0xB ≤ s.inp.op.toNat ∧ step s = .next t ∧
      s'.inp.pattern = none ∧ s'.inp.op = 0xF ∧ 0xB ≤ s'.inp.op.toNat ∧ step s' = .next t' :=
  ⟨State.reset.present (ports 0xB), _, State.reset.present (ports 0xF), _, rfl, rfl, by decide, rfl, rfl, rfl, by decide,
    rfl⟩

/-- CodesThatAreNoKindFail. -/
theorem witness_no_kind : 5 ≤ (0b101#3).toNat ∧ 5 ≤ (0b111#3).toNat := by decide

/-- A state whose outputs are the answer to a gather of 0xFFFFFFFF. -/
def gathered : State :=
  { State.reset with
    inp := { Request.idle with op := 0x6, value := 0xFFFFFFFF }
    out := { err := false, errCause := 0, result := 0xFFF, carryOut := true, kindOut := 7, amountOut := 99 } }

/-- StepKeepsOutputsInRange: the state gathered meets its hypotheses. -/
theorem witness_outputs_in_range : OutputsInRange gathered ∧ ∃ t, step gathered = .next t := by
  refine ⟨⟨by simp [gathered], ?_, ?_, ?_, ?_, ?_, ?_⟩, _, rfl⟩
  · intro _ h; cases h
  · intro _ h; cases h
  · intro _ _ _ h; cases h; decide
  all_goals exact fun _ h => absurd h (by decide)

/-- InstructionsChangeOnlyTheOutputs, RepeatedRequestsRepeatTheResponse. -/
theorem witness_steps : (∃ t, exec (.applyShift 1 0b000 31 false) State.reset = .next t) ∧
    ∃ t, step State.reset = .next t := ⟨⟨_, rfl⟩, _, rfl⟩

/-- DecodeImmShiftFollowsItsTable and the sequences of R149: each clause. -/
theorem witness_decode_imm_shift :
    ((0#32).toNat ≤ 3 ∧ (31#32).toNat ≤ 31) ∧ ((1#32).toNat ≤ 3 ∧ (0#32).toNat ≤ 31) ∧ (3#32).toNat ≤ 3 ∧
    (3#32 = 3 ∧ 1#32 ≠ 0) ∧ 3 < (4#32).toNat ∧ 31 < (32#32).toNat := by decide

/-- DecodedShiftsAreAccepted and DecodeImmShiftIsOneToOne. -/
theorem witness_decoded_shifts :
    (∃ t, exec (.decodeImmShift 3 0) State.reset = .next t ∧ t.out.err = false) ∧
    (∃ t t', exec (.decodeImmShift 1 0) State.reset = .next t ∧ t.out.err = false ∧
      exec (.decodeImmShift 1 0) State.reset = .next t' ∧ t'.out.err = false ∧ t.out.kindOut = t'.out.kindOut ∧
      t.out.amountOut = t'.out.amountOut) ∧
    ∃ t, exec (.decodeRegShift 3) State.reset = .next t ∧ t.out.err = false ∧ (31#32).toNat ≤ 31 :=
  ⟨⟨_, rfl, rfl⟩, ⟨_, _, rfl, rfl, rfl, rfl, rfl, rfl⟩, _, rfl, rfl, by decide⟩

/-- AmountZeroKeepsValueAndCarry and CarryInIsReadOnlyWhereTheTableSays. -/
theorem witness_amount_zero_and_carry :
    (0b000#3).toNat ≤ 3 ∧ (0b011#3).toNat ≤ 3 ∧ 1#32 ≠ 0 ∧ 0b000#3 ≠ 0b100 ∧ 256 ≤ (256#32).toNat ∧
    1024 ≤ (1024#32).toNat ∧ (false ≠ true) ∧ (255#32).toNat < 256 ∧ (1023#32).toNat < 1024 ∧
    ∃ t, exec (.decodeImmShift 0 0) State.reset = .next t ∧ t.out.err = false ∧ t.out.amountOut = 0 :=
  ⟨by decide, by decide, by decide, by decide, by decide, by decide, by decide, by decide, by decide, _, rfl, rfl, rfl⟩

/-- The units' obligations and ShiftPairsRoundTrip: the amounts at both ends, and the amounts next to them. -/
theorem witness_amounts : (1 ≤ (1#32).toNat ∧ (1#32).toNat ≤ 31) ∧ (1 ≤ (31#32).toNat ∧ (31#32).toNat ≤ 31) ∧
    (1 ≤ (32#32).toNat ∧ (32#32).toNat ≤ 32) ∧ 31 < (32#32).toNat ∧ 32 < (33#32).toNat ∧ (0#32 ≠ 1 ∧ 2#32 ≠ 1) := by decide

/-- ApplyShiftDropsOnlyTheCarry: the accepted amounts. -/
theorem witness_accepted_amounts : (31#32).toNat ≤ 31 ∧ (32#32).toNat ≤ 32 ∧ 1#32 = 1 := by decide

/-- ShiftPairsRoundTrip: each pair of requests, and the values whose shifted-out bits are 0. -/
theorem witness_shift_pairs :
    (∃ t u, exec (.applyShift 0x12345678 0b011 31 false) State.reset = .next t ∧
      exec (.applyShift t.out.result 0b011 (32 - 31) true) t = .next u) ∧
    (∃ t u, exec (.applyShift 0x00345678 0b000 8 false) State.reset = .next t ∧
      exec (.applyShift t.out.result 0b001 8 true) t = .next u) ∧
    (∃ t u, exec (.applyShift 0x12345600 0b001 8 false) State.reset = .next t ∧
      exec (.applyShift t.out.result 0b000 8 true) t = .next u) ∧
    (0x00345678#32).toNat < 2 ^ (32 - (8#32).toNat) ∧ (0x12345600#32).toNat % 2 ^ (8#32).toNat = 0 :=
  ⟨⟨_, _, rfl, rfl⟩, ⟨_, _, rfl, rfl⟩, ⟨_, _, rfl, rfl⟩, by norm_num, by norm_num⟩

/-- LsrThenRrxShiftsADoubleWord: the numbers of program P2. -/
theorem witness_double_word :
    ∃ t u : State, step (State.reset.present (encode (.applyShiftWithCarry 0xDEADBEEF 0b001 1 false))) = .next t ∧
      step (t.present (encode (.applyShiftWithCarry 0x12345678 0b100 1 t.out.carryOut))) = .next u := ⟨_, _, rfl, rfl⟩

/-- The expanders' obligations and ExpandersDoNotUseTheRorCarry: each range of `field12` at its ends. -/
theorem witness_fields : (255#32).toNat < 256 ∧ (256 ≤ (256#32).toNat ∧ (4095#32).toNat ≤ 4095) ∧ 4095 < (4096#32).toNat ∧
    ((1023#32).toNat < 1024 ∧ (0#32).toNat / 256 = 0 ∧ (256#32).toNat / 256 = 1 ∧ (512#32).toNat / 256 = 2 ∧
      (1023#32).toNat / 256 = 3) ∧ (1024 ≤ (1024#32).toNat ∧ (1024#32).toNat ≤ 4095) := by decide

/-- EncodingARowsAnswer and EncodingBRowsAnswer. -/
theorem witness_rows : 1#4 ≠ 0 ∧ (8#5).toNat / 8 = 1 ∧ (15#5).toNat / 8 = 1 ∧ (16#5).toNat / 8 = 2 ∧ (23#5).toNat / 8 = 2 ∧
    (24#5).toNat / 8 = 3 ∧ (31#5).toNat / 8 = 3 := by decide

/-- HelpersAreCombinationsOfExtractBits: every request is answered, with `IMM7_LSB` = 0. -/
theorem witness_helpers : ∃ a b c d g h : State,
    exec (.extractBit 0x04007012 26) State.reset = .next a ∧ exec (.extractBits 0x04007012 14 12) State.reset = .next b ∧
    exec (.extractBits 0x04007012 7 0) State.reset = .next c ∧ exec (.extractBits 0x04007012 6 0) State.reset = .next d ∧
    exec (.zeroExtendScatteredImmediate12 0x04007012) State.reset = .next g ∧
    exec (.scaledImmediate7 0x04007012) State.reset = .next h ∧ State.reset.imm7Lsb = 0 :=
  ⟨_, _, _, _, _, _, rfl, rfl, rfl, rfl, rfl, rfl, rfl⟩

/-- ExtractBitsCutsTheRange and ExtractBitReadsOneBit: the widest and the narrowest range, and each way out of it. -/
theorem witness_ranges : ((31#32).toNat ≤ 31 ∧ (0#32).toNat ≤ (31#32).toNat) ∧ (31#32).toNat ≤ (31#32).toNat ∧
    31 < (32#32).toNat ∧ (12#32).toNat < (14#32).toNat := by decide

/-- ShiftByRegisterFollowsItsTable: each clause at the ends of its range. -/
theorem witness_shift_by_register : ((3#32).toNat ≤ 3 ∧ 0#32 = 0) ∧ (1#32 ≠ 0 ∧ (1#32).toNat ≤ 31 ∧ (31#32).toNat ≤ 31) ∧
    (32#32).toNat = 32 ∧ 32 < (33#32).toNat ∧ 3 < (4#32).toNat := by decide

end Sys2Proof.Tests
end

section
/-! SUPPORT. From an instruction's answer to the two predicates the obligations speak of: an outcome without failure
`Succeeds`, an outcome with a cause `FailsWith` that cause's code (10_state.md R33, 60_exceptions.md R155, R156). -/

namespace Sys2Proof.Machine

/-- Every operation fails in the same way, whatever ports its success drives. -/
theorem failsWith_of_answer {α : Type} {drive : State → α → State} {r : Except Cause α} {i : Instr} {s : State} {c : Cause}
    (he : exec i s = answer drive r s) (hr : r = .error c) : FailsWith i s (causeCode c) := by
  subst hr
  exact ⟨s.raiseInvalid c, he, rfl, rfl⟩

/-- A success is judged by what the operation's drive puts on the ports. -/
theorem succeeds_of_answer {α : Type} {drive : State → α → State} {r : Except Cause α} {i : Instr} {s : State} {a : α}
    {P : Response → Prop} (hd : (drive s a).out.err = false ∧ (drive s a).out.errCause = 0)
    (he : exec i s = answer drive r s) (hr : r = .ok a) (hP : P (drive s a).out) : Succeeds i s P := by
  subst hr
  exact ⟨drive s a, he, hd.1, hd.2, hP⟩

end Sys2Proof.Machine
end

section
/-! PROOFS. The Shift-Type Decoder (40_shift_type_decoder.md): what each decoder returns on its domain, which check it fails
outside it, and the obligations O18 (R85) and O19 (R86). -/

namespace Sys2Proof.Machine

theorem exec_decodeImmShift (tc i5 : Word32) (s : State) :
    exec (.decodeImmShift tc i5) s = answer State.driveKindAmount (decodeImmShift tc.toNat i5.toNat) s := rfl

theorem exec_decodeRegShift (tc : Word32) (s : State) :
    exec (.decodeRegShift tc) s = answer State.driveKind (decodeRegShift tc.toNat) s := rfl

theorem decodeImmShift_of_le {tc i5 : Nat} (htc : tc ≤ 3) (hi5 : i5 ≤ 31) :
    decodeImmShift tc i5 = .ok (shiftOperandOf tc i5) := by
  simp [decodeImmShift, htc.not_gt, hi5.not_gt]

/-- The check of `typeCode` comes first: it fails whatever `imm5` is (R159). -/
theorem decodeImmShift_badShiftType {tc : Nat} (htc : 3 < tc) (i5 : Nat) :
    decodeImmShift tc i5 = .error .badShiftType := by
  simp [decodeImmShift, htc]

theorem decodeImmShift_fieldRange {tc i5 : Nat} (htc : tc ≤ 3) (hi5 : 31 < i5) :
    decodeImmShift tc i5 = .error .fieldRange := by
  simp [decodeImmShift, htc.not_gt, hi5]

/-- The register form has no amount 0 to give RRX: its kind is the one whose port code is the selector (R57, R86). -/
theorem decodeRegShift_of_le {tc : Nat} (htc : tc ≤ 3) :
    ∃ k, decodeRegShift tc = .ok k ∧ (kindCode k).toNat = tc := by
  obtain rfl | rfl | rfl | rfl : tc = 0 ∨ tc = 1 ∨ tc = 2 ∨ tc = 3 := by omega
  · exact ⟨.lsl, rfl, rfl⟩
  · exact ⟨.lsr, rfl, rfl⟩
  · exact ⟨.asr, rfl, rfl⟩
  · exact ⟨.ror, rfl, rfl⟩

theorem decodeRegShift_badShiftType {tc : Nat} (htc : 3 < tc) : decodeRegShift tc = .error .badShiftType := by
  have h0 : tc ≠ 0 := by omega
  have h1 : tc ≠ 1 := by omega
  have h2 : tc ≠ 2 := by omega
  simp [decodeRegShift_eq, h0, h1, h2, htc.ne']

/-- The amount port shows the normalised amount of the LSR and ASR rows as a word: 32 for `imm5` = 0 (R85). -/
theorem ofNat_normalizedAmount (i5 : Word32) :
    BitVec.ofNat 32 (if i5.toNat = 0 then 32 else i5.toNat) = if i5 = 0 then 32 else i5 := by
  by_cases h : i5 = 0
  · subst h
    rfl
  · have h' : i5.toNat ≠ 0 := BitVec.toNat_ne_iff_ne.mpr h
    rw [if_neg h, if_neg h', BitVec.ofNat_toNat, BitVec.setWidth_eq]

/-- The LSL row of R85. -/
@[simp] theorem shiftOperandOf_zero (i5 : Nat) : shiftOperandOf 0 i5 = (.lsl, i5) := rfl

/-- The LSR row of R85. -/
@[simp] theorem shiftOperandOf_one (i5 : Nat) : shiftOperandOf 1 i5 = (.lsr, if i5 = 0 then 32 else i5) := rfl

/-- The ASR row of R85. -/
@[simp] theorem shiftOperandOf_two (i5 : Nat) : shiftOperandOf 2 i5 = (.asr, if i5 = 0 then 32 else i5) := rfl

/-- The RRX row of R85. -/
@[simp] theorem shiftOperandOf_three_zero : shiftOperandOf 3 0 = (.rrx, 1) := rfl

/-- The ROR row of R85. -/
@[simp] theorem shiftOperandOf_three_of_ne_zero {i5 : Nat} (h : i5 ≠ 0) : shiftOperandOf 3 i5 = (.ror, i5) := if_neg h

/-- Settles O18: row by row of the selector table on the domain, and by the first check that fails outside it. -/
theorem decodeImmShiftFollowsItsTable : Obligations.DecodeImmShiftFollowsItsTable := by
  intro s tc i5
  have he := exec_decodeImmShift tc i5 s
  refine ⟨fun htc hi5 => ?_, fun htc => failsWith_of_answer he (decodeImmShift_badShiftType htc _),
    fun htc hi5 => failsWith_of_answer he (decodeImmShift_fieldRange htc hi5)⟩
  refine succeeds_of_answer ⟨rfl, rfl⟩ he (decodeImmShift_of_le htc hi5) ⟨?lsl, ?lsr, ?asr, ?rrx, ?ror⟩
  case lsl =>
    rintro rfl
    simp [kindCode]
  case lsr | asr =>
    rintro rfl
    simp [kindCode, ofNat_normalizedAmount]
  case rrx =>
    rintro rfl rfl
    simp [kindCode]
  case ror =>
    rintro rfl hne
    have h : i5.toNat ≠ 0 := BitVec.toNat_ne_iff_ne.mpr hne
    simp [kindCode, h]

/-- Settles O19: the kind's port code is the selector, by the four rows; above 3 the only check fails. -/
theorem decodeRegShiftFollowsItsTable : Obligations.DecodeRegShiftFollowsItsTable := by
  intro s tc
  have he := exec_decodeRegShift tc s
  refine ⟨fun htc => ?_, fun htc => failsWith_of_answer he (decodeRegShift_badShiftType htc)⟩
  obtain ⟨k, hk, hcode⟩ := decodeRegShift_of_le htc
  exact succeeds_of_answer ⟨rfl, rfl⟩ he hk hcode

end Sys2Proof.Machine
end

section
/-! PROOFS. The Shift Applier (41_shift_applier.md): which amounts it accepts, that ApplyShift answers as
ApplyShiftWithCarry does, and the obligation O33 (R102). -/

namespace Sys2Proof.Machine

theorem exec_applyShiftWithCarry (v : Word32) (k : BitVec 3) (n : Word32) (c : Carry) (s : State) :
    exec (.applyShiftWithCarry v k n c) s = answer State.driveResultCarry (applyShiftCode v k n.toNat c) s := rfl

theorem exec_applyShift (v : Word32) (k : BitVec 3) (n : Word32) (c : Carry) (s : State) :
    exec (.applyShift v k n c) s = answer State.driveResult (applyShift v k n.toNat c) s := rfl

/-- A success of the applier is one of ApplyShift, which keeps the word and drops the carry (R102). -/
theorem applyShift_of_ok {v : Word32} {k : BitVec 3} {n : Nat} {c : Carry} {rc : Word32 × Carry}
    (h : applyShiftCode v k n c = .ok rc) : applyShift v k n c = .ok rc.1 := by
  simp [applyShift, h]

/-- A failure of the applier is one of ApplyShift, with the same cause (R102). -/
theorem applyShift_of_error {v : Word32} {k : BitVec 3} {n : Nat} {c : Carry} {e : Cause}
    (h : applyShiftCode v k n c = .error e) : applyShift v k n c = .error e := by
  simp [applyShift, h]

/-- A kind other than RRX accepts every amount up to its bound, 0 included (R95, R96). -/
theorem applyShiftWithCarry_ok_of_le {k : ShiftKind} {n : Nat} (hk : k ≠ .rrx) (hn : n ≤ maxAmount k) (v : Word32)
    (c : Carry) : ∃ rc, applyShiftWithCarry v k n c = .ok rc := by
  by_cases h0 : n = 0
  · subst h0
    exact ⟨_, applyShiftWithCarry_zero hk⟩
  · exact ⟨_, applyShiftWithCarry_unit hk h0 hn⟩

/-- The amounts each `kind` port code accepts: 0..31 for LSL and ROR, 0..32 for LSR and ASR, 1 for RRX (R95). -/
theorem applyShiftCode_ok_of_accepted {k : BitVec 3} {n : Word32}
    (h : (k = 0b000 ∨ k = 0b011) ∧ n.toNat ≤ 31 ∨ (k = 0b001 ∨ k = 0b010) ∧ n.toNat ≤ 32 ∨ k = 0b100 ∧ n = 1)
    (v : Word32) (c : Carry) : ∃ rc, applyShiftCode v k n.toNat c = .ok rc := by
  obtain ⟨rfl | rfl, hn⟩ | ⟨rfl | rfl, hn⟩ | ⟨rfl, rfl⟩ := h
  · exact applyShiftWithCarry_ok_of_le (k := .lsl) (by decide) hn v c
  · exact applyShiftWithCarry_ok_of_le (k := .ror) (by decide) hn v c
  · exact applyShiftWithCarry_ok_of_le (k := .lsr) (by decide) hn v c
  · exact applyShiftWithCarry_ok_of_le (k := .asr) (by decide) hn v c
  · exact ⟨_, applyShiftWithCarry_rrx v 1 c⟩

/-- Where the applier succeeds, both requests are answered without failure and with the same word. -/
theorem exec_applyShift_of_ok {v n : Word32} {k : BitVec 3} {c : Carry} {rc : Word32 × Carry}
    (h : applyShiftCode v k n.toNat c = .ok rc) (s : State) :
    exec (.applyShiftWithCarry v k n c) s = .next (s.driveResultCarry rc) ∧
      exec (.applyShift v k n c) s = .next (s.driveResult rc.1) := by
  rw [exec_applyShiftWithCarry, exec_applyShift, h, applyShift_of_ok h]
  exact ⟨rfl, rfl⟩

/-- Where the applier fails, both requests are answered with that one failure. -/
theorem exec_applyShift_of_error {v n : Word32} {k : BitVec 3} {c : Carry} {e : Cause}
    (h : applyShiftCode v k n.toNat c = .error e) (s : State) :
    exec (.applyShiftWithCarry v k n c) s = .next (s.raiseInvalid e) ∧
      exec (.applyShift v k n c) s = .next (s.raiseInvalid e) := by
  rw [exec_applyShiftWithCarry, exec_applyShift, h, applyShift_of_error h]
  exact ⟨rfl, rfl⟩

/-- Settles O33: both requests are answered from one outcome of the applier, by the cases of that outcome, and on the
accepted amounts the outcome is a success. -/
theorem applyShiftDropsOnlyTheCarry : Obligations.ApplyShiftDropsOnlyTheCarry := by
  intro s v n k c
  refine ⟨?sameAnswer, fun hacc => ?accepted⟩
  case sameAnswer =>
    cases h : applyShiftCode v k n.toNat c with
    | ok rc =>
      obtain ⟨hwith, hless⟩ := exec_applyShift_of_ok h s
      exact ⟨_, _, hwith, hless, rfl, rfl, fun _ => rfl⟩
    | error e =>
      obtain ⟨hwith, hless⟩ := exec_applyShift_of_error h s
      exact ⟨_, _, hwith, hless, rfl, rfl, fun _ => rfl⟩
  case accepted =>
    obtain ⟨rc, h⟩ := applyShiftCode_ok_of_accepted hacc v c
    obtain ⟨hwith, hless⟩ := exec_applyShift_of_ok h s
    exact ⟨_, _, hwith, rfl, hless, rfl, rfl, rfl⟩

end Sys2Proof.Machine
end

section
/-! PROOFS. The Immediate Expander (42_immediate_expander.md): what each expander returns on each range of `field12`, the
bits of the word it rotates, and the obligations O38 (R115) and O40 (R116). -/

namespace Sys2Proof.Machine

theorem exec_expandImmediateA (f : Word32) (c : Carry) (s : State) :
    exec (.expandImmediateA f c) s = answer State.driveResultCarry (expandImmediateA f.toNat c) s := rfl

theorem exec_expandImmediateB (f : Word32) (c : Carry) (s : State) :
    exec (.expandImmediateB f c) s = answer State.driveResultCarry (expandImmediateB f.toNat c) s := rfl

/-- A zero-extended low field shows the word's own bits below its width and 0 above it (R12). -/
theorem getLsbD_zext32_mod (f : Word32) (k j : Nat) (hj : j < 32) :
    (zext32 (f.toNat % 2 ^ k)).getLsbD j = (decide (j < k) && f.getLsbD j) := by
  rw [getLsbD_zext32 _ j hj, Nat.testBit_mod_two_pow, BitVec.testBit_toNat]

/-- The byte that encoding B rotates has bit 7 set and takes only the bits below it from the field (R116). -/
theorem getLsbD_unrotated_mod (f : Word32) (j : Nat) (hj : j < 32) :
    (unrotated (f.toNat % 2 ^ 7)).getLsbD j = (decide (j = 7) || decide (j < 7) && f.getLsbD j) := by
  have htop : (0x80#32).getLsbD j = decide (j = 7) := by
    revert j
    decide
  rw [unrotated, BitVec.getLsbD_or, htop, getLsbD_zext32_mod f 7 j hj]

/-- Both rotated forms: result bit `j` is bit `(j + n) mod 32` of the rotated word, and the carry is bit 31 of the result
(R115, R116). -/
theorem succeeds_of_rotatedImmediate {i : Instr} {s : State} {r : Except Cause (Word32 × Carry)} {imm : Word32} {n : Nat}
    {bit : Nat → Bool} (he : exec i s = answer State.driveResultCarry r s) (hr : r = .ok (rotatedImmediate imm n))
    (hn : n < 32) (hbit : ∀ j < 32, imm.getLsbD j = bit j) :
    Succeeds i s fun o => (∀ j < 32, o.result.getLsbD j = bit ((j + n) % 32)) ∧ o.carryOut = o.result.getLsbD 31 := by
  obtain ⟨hresult, hcarry⟩ := rotatedImmediate_spec imm n
  refine succeeds_of_answer ⟨rfl, rfl⟩ he hr ⟨fun j hj => ?_, ?_⟩
  · rw [driveResultCarry_result, hresult, getLsbD_ror32 imm n j hn hj]
    exact hbit _ (Nat.mod_lt _ (by decide))
  · rw [driveResultCarry_carryOut, driveResultCarry_result, hcarry, hresult]

/-! ### ExpandImmediateA -/

/-- Selector 0: the field is the byte itself, and the carry passes through. -/
theorem expandImmediateA_of_lt {f : Nat} (h : f < 256) (c : Carry) : expandImmediateA f c = .ok (zext32 f, c) := by
  have hrange : ¬ 4095 < f := by omega
  have hselector : slice f 11 8 = 0 := by simp only [slice]; omega
  have hbyte : slice f 7 0 = f := by simp only [slice]; omega
  simp [expandImmediateA, hrange, hselector, hbyte]

theorem expandImmediateA_of_ge {f : Nat} (hlow : 256 ≤ f) (hhigh : f ≤ 4095) (c : Carry) :
    expandImmediateA f c = .ok (rotatedImmediate (zext32 (f % 256)) (2 * (f / 256))) := by
  have hselector : slice f 11 8 = f / 256 := by simp only [slice]; omega
  have hbyte : slice f 7 0 = f % 256 := by simp only [slice]; omega
  have hne : 2 * (f / 256) ≠ 0 := by omega
  simp only [expandImmediateA, hhigh.not_gt, hselector, hbyte, hne, if_false]

theorem expandImmediateA_fieldRange {f : Nat} (h : 4095 < f) (c : Carry) : expandImmediateA f c = .error .fieldRange :=
  if_pos h

/-- Settles O38: the three ranges of the field are the unrotated byte, the rotated byte, and the failed range check. -/
theorem expandImmediateARotatesByTwiceTheSelector : Obligations.ExpandImmediateARotatesByTwiceTheSelector := by
  intro s f c
  have he := exec_expandImmediateA f c s
  refine ⟨fun h => ?unrotated, fun hlow hhigh => ?rotated,
    fun h => failsWith_of_answer he (expandImmediateA_fieldRange h c)⟩
  case unrotated =>
    refine succeeds_of_answer ⟨rfl, rfl⟩ he (expandImmediateA_of_lt h c) ⟨?_, rfl⟩
    rw [driveResultCarry_result, zext32, BitVec.ofNat_toNat, BitVec.setWidth_eq]
  case rotated =>
    exact succeeds_of_rotatedImmediate he (expandImmediateA_of_ge hlow hhigh c) (by omega) (getLsbD_zext32_mod f 8)

/-! ### ExpandImmediateB -/

/-- `top2` = 0: the byte is replicated as bits 9..8 say, and the carry passes through. -/
theorem expandImmediateB_of_lt {f : Nat} (h : f < 1024) (c : Carry) :
    expandImmediateB f c = .ok (replicatedImmediate (f / 256) (zext32 (f % 256)), c) := by
  have hrange : ¬ 4095 < f := by omega
  have htop : slice f 11 10 = 0 := by simp only [slice]; omega
  have hselector : slice f 9 8 = f / 256 := by simp only [slice]; omega
  have hbyte : slice f 7 0 = f % 256 := by simp only [slice]; omega
  simp only [expandImmediateB, hrange, htop, hselector, hbyte, if_false, if_true]

/-- `top2` other than 0: bits 11..7 are the rotation, which shares bit 7 with the byte. -/
theorem expandImmediateB_of_ge {f : Nat} (hlow : 1024 ≤ f) (hhigh : f ≤ 4095) (c : Carry) :
    expandImmediateB f c = .ok (rotatedImmediate (unrotated (f % 128)) (f / 128)) := by
  have htop : slice f 11 10 ≠ 0 := by simp only [slice]; omega
  have hrotate : slice f 11 7 = f / 128 := by simp only [slice]; omega
  have hlow7 : slice f 6 0 = f % 128 := by simp only [slice]; omega
  simp only [expandImmediateB, hhigh.not_gt, htop, hrotate, hlow7, if_false]

theorem expandImmediateB_fieldRange {f : Nat} (h : 4095 < f) (c : Carry) : expandImmediateB f c = .error .fieldRange :=
  if_pos h

/-- The four replicated forms as products of the field's low byte (R116). -/
theorem toNat_replicatedImmediate (f : Nat) :
    (replicatedImmediate 0 (zext32 (f % 256))).toNat = f % 256 ∧
    (replicatedImmediate 1 (zext32 (f % 256))).toNat = f % 256 * 0x00010001 ∧
    (replicatedImmediate 2 (zext32 (f % 256))).toNat = f % 256 * 0x01000100 ∧
    (replicatedImmediate 3 (zext32 (f % 256))).toNat = f % 256 * 0x01010101 := by
  have hplain : (zext32 (f % 256)).toNat = f % 256 := by
    rw [zext32, BitVec.toNat_ofNat]
    omega
  have hproducts := toNat_replicate (BitVec.ofNat 8 f)
  rw [BitVec.toNat_ofNat] at hproducts
  exact ⟨hplain, hproducts⟩

/-- Settles O40: the three ranges of the field are the replicated forms, the rotated form, and the failed range check. -/
theorem expandImmediateBReplicatesOrRotates : Obligations.ExpandImmediateBReplicatesOrRotates := by
  intro s f c
  have he := exec_expandImmediateB f c s
  refine ⟨fun h => ?replicated, fun hlow hhigh => ?rotated,
    fun h => failsWith_of_answer he (expandImmediateB_fieldRange h c)⟩
  case replicated =>
    obtain ⟨hplain, heven, hodd, hall⟩ := toNat_replicatedImmediate f.toNat
    refine succeeds_of_answer ⟨rfl, rfl⟩ he (expandImmediateB_of_lt h c) ?_
    rw [driveResultCarry_result]
    exact ⟨fun hsel => hsel ▸ hplain, fun hsel => hsel ▸ heven, fun hsel => hsel ▸ hodd, fun hsel => hsel ▸ hall, rfl⟩
  case rotated =>
    exact succeeds_of_rotatedImmediate he (expandImmediateB_of_ge hlow hhigh c) (by omega) (getLsbD_unrotated_mod f)

end Sys2Proof.Machine
end

section
/-! PROOFS. The field helpers (44_field_helpers.md): the range ExtractBits cuts out and the check it fails, which registers
the predicate names, and the obligations O47 (R137) and O49 (R140). -/

namespace Sys2Proof.Machine

/-! ### ExtractBits -/

theorem exec_extractBits (v hi lo : Word32) (s : State) :
    exec (.extractBits v hi lo) s = answer State.driveResult (extractBits v hi.toNat lo.toNat) s := rfl

theorem extractBits_of_le {hi lo : Nat} (hhi : hi ≤ 31) (hlo : lo ≤ hi) (v : Word32) :
    extractBits v hi lo = .ok (BitVec.ofNat 32 (slice v.toNat hi lo)) :=
  if_neg (by omega)

theorem extractBits_badBitRange {hi lo : Nat} (h : 31 < hi ∨ 31 < lo ∨ hi < lo) (v : Word32) :
    extractBits v hi lo = .error .badBitRange :=
  if_pos h

/-- A slice of a word fits in a word, so that the result port shows the whole of it (R12). -/
theorem toNat_ofNat_slice (v : Word32) (hi lo : Nat) :
    (BitVec.ofNat 32 (slice v.toNat hi lo)).toNat = slice v.toNat hi lo := by
  have hle : slice v.toNat hi lo ≤ v.toNat := (Nat.mod_le _ _).trans (Nat.div_le_self _ _)
  rw [BitVec.toNat_ofNat, Nat.mod_eq_of_lt (hle.trans_lt v.isLt)]

theorem getLsbD_ofNat_slice (v : Word32) (hi lo j : Nat) :
    (BitVec.ofNat 32 (slice v.toNat hi lo)).getLsbD j = (decide (j ≤ hi - lo) && v.getLsbD (lo + j)) := by
  rw [← BitVec.testBit_toNat, toNat_ofNat_slice, testBit_slice, BitVec.testBit_toNat]

/-- Settles O47: on the domain the result is the slice, read as bits and as a number; off it the one check fails. -/
theorem extractBitsCutsTheRange : Obligations.ExtractBitsCutsTheRange := by
  intro s v hi lo
  have he := exec_extractBits v hi lo s
  refine ⟨fun hhi hlo => ?_, fun h => failsWith_of_answer he (extractBits_badBitRange h v)⟩
  refine succeeds_of_answer ⟨rfl, rfl⟩ he (extractBits_of_le hhi hlo v) ?_
  rw [driveResult_result]
  exact ⟨fun j _ => getLsbD_ofNat_slice v hi.toNat lo.toNat j, toNat_ofNat_slice v hi.toNat lo.toNat⟩

/-! ### IsRestrictedRegister -/

theorem exec_isRestrictedRegister (n : Word32) (s : State) :
    exec (.isRestrictedRegister n) s = .next (s.driveResult (if isRestrictedRegister n.toNat then 1 else 0)) := rfl

theorem isRestrictedRegister_iff (n : Nat) : isRestrictedRegister n = true ↔ n = 13 ∨ n = 15 := by
  simp [isRestrictedRegister]

/-- Settles O49: the one answer, which is no failure, by the two values of the predicate. -/
theorem onlyThirteenAndFifteenAreRestricted : Obligations.OnlyThirteenAndFifteenAreRestricted := by
  intro s n
  refine ⟨_, exec_isRestrictedRegister n s, rfl, rfl, ?_⟩
  simp only [driveResult_result, ne_eq, ← not_or, ← isRestrictedRegister_iff]
  cases isRestrictedRegister n.toNat <;> decide

end Sys2Proof.Machine
end

section
/-! PROOFS. Decoding requests (30_encoding.md sections 1 to 4): which operation an op code selects, that every request
decodes to a well-formed instruction, that the encoder's requests decode back, and the obligations O1 to O5 and O23. -/

namespace Sys2Proof.Machine

/-! ### Encoding and decoding back -/

/-- Settles O4: constructor by constructor, from the family of the encoder's round trips. -/
theorem decodeEncodeRoundTrip : Obligations.DecodeEncodeRoundTrip := fun
  | .decodeImmShift tc i5 => Laws.RoundTrip.decodeImmShift tc i5
  | .decodeRegShift tc => Laws.RoundTrip.decodeRegShift tc
  | .applyShiftWithCarry v k n c => Laws.RoundTrip.applyShiftWithCarry v k n c
  | .applyShift v k n c => Laws.RoundTrip.applyShift v k n c
  | .expandImmediateA f c => Laws.RoundTrip.expandImmediateA f c
  | .expandImmediateB f c => Laws.RoundTrip.expandImmediateB f c
  | .zeroExtendScatteredImmediate12 w => Laws.RoundTrip.zeroExtendScatteredImmediate12 w
  | .scaledImmediate7 w => Laws.RoundTrip.scaledImmediate7 w
  | .extractBits v hi lo => Laws.RoundTrip.extractBits v hi lo
  | .extractBit v b => Laws.RoundTrip.extractBit v b
  | .isRestrictedRegister n => Laws.RoundTrip.isRestrictedRegister n
  | .unknownOpB => Laws.RoundTrip.unknownOpB
  | .unknownOpC => Laws.RoundTrip.unknownOpC
  | .unknownOpD => Laws.RoundTrip.unknownOpD
  | .unknownOpE => Laws.RoundTrip.unknownOpE
  | .unknownOpF => Laws.RoundTrip.unknownOpF
  | .kindLsl v n c => Laws.RoundTrip.kindLsl v n c
  | .kindLsr v n c => Laws.RoundTrip.kindLsr v n c
  | .kindAsr v n c => Laws.RoundTrip.kindAsr v n c
  | .kindRor v n c => Laws.RoundTrip.kindRor v n c
  | .kindRrx v n c => Laws.RoundTrip.kindRrx v n c
  | .badKind5 => Laws.RoundTrip.badKind5
  | .badKind6 => Laws.RoundTrip.badKind6
  | .badKind7 => Laws.RoundTrip.badKind7
  | .selLslImm i5 => Laws.RoundTrip.selLslImm i5
  | .selLsr32 => Laws.RoundTrip.selLsr32
  | .selLsrImm i5 => Laws.RoundTrip.selLsrImm i5
  | .selAsr32 => Laws.RoundTrip.selAsr32
  | .selAsrImm i5 => Laws.RoundTrip.selAsrImm i5
  | .selRrx => Laws.RoundTrip.selRrx
  | .selRorImm i5 => Laws.RoundTrip.selRorImm i5
  | .selLslReg => Laws.RoundTrip.selLslReg
  | .selLsrReg => Laws.RoundTrip.selLsrReg
  | .selAsrReg => Laws.RoundTrip.selAsrReg
  | .selRorReg => Laws.RoundTrip.selRorReg
  | .immAUnrotated imm c => Laws.RoundTrip.immAUnrotated imm c
  | .immARotated sel imm => Laws.RoundTrip.immARotated sel imm
  | .immBPlain b c => Laws.RoundTrip.immBPlain b c
  | .immBEven b c => Laws.RoundTrip.immBEven b c
  | .immBOdd b c => Laws.RoundTrip.immBOdd b c
  | .immBAll b c => Laws.RoundTrip.immBAll b c
  | .immBRotated8 r low7 => Laws.RoundTrip.immBRotated8 r low7
  | .immBRotated16 r low7 => Laws.RoundTrip.immBRotated16 r low7
  | .immBRotated24 r low7 => Laws.RoundTrip.immBRotated24 r low7
  | .gatherWord i imm3 b => Laws.RoundTrip.gatherWord i imm3 b
  | .imm7Word imm7 => Laws.RoundTrip.imm7Word imm7

/-- A step answers the instruction whose request the caller has just presented (R181). -/
theorem step_present_encode {i : Instr} (hi : i.wf = true) (s : State) :
    step (s.present (encode i)) = exec i (s.present (encode i)) := by
  rw [step, present_inp, decodeEncodeRoundTrip i hi]

/-- Settles O1: the first part is the definition of a step, the second the round trip of the encoder. -/
theorem stepRunsTheDecodedRequest : Obligations.StepRunsTheDecodedRequest :=
  ⟨fun _ => rfl, fun _ s hi => step_present_encode hi s⟩

/-! ### Requests on the ports -/

/-- A request that presents no field pattern is read through its op code (R55). -/
theorem decode_of_pattern_none {r : Request} (h : r.pattern = none) : decode r = decodeOp r := by
  simp [decode, h]

/-- The op code is one of the sixteen codes of the table (R55, R56). -/
theorem op_cases (op : BitVec 4) :
    op = 0x0 ∨ op = 0x1 ∨ op = 0x2 ∨ op = 0x3 ∨ op = 0x4 ∨ op = 0x5 ∨ op = 0x6 ∨ op = 0x7 ∨ op = 0x8 ∨ op = 0x9 ∨
      op = 0xA ∨ op = 0xB ∨ op = 0xC ∨ op = 0xD ∨ op = 0xE ∨ op = 0xF := by
  revert op
  decide

/-- Settles O2: once the code is put in the request, `decodeOp` reads off its row. -/
theorem opCodeSelectsTheOperation : Obligations.OpCodeSelectsTheOperation := by
  intro r hports
  obtain ⟨op, value, typeCode, imm5, kind, amount, carryIn, field12, highBit, lowBit, regNum, pattern⟩ := r
  obtain rfl : pattern = none := hports
  refine ⟨?_, ?_, ?_, ?_, ?_, ?_, ?_, ?_, ?_, ?_, ?_, ?_, ?_, ?_, ?_, ?_⟩ <;>
    exact fun (hop : op = _) => hop ▸ rfl

/-- Settles O3: fixed words, each read by the definition of its format. -/
theorem writtenOutPatternsDecode : Obligations.WrittenOutPatternsDecode := by
  unfold Obligations.WrittenOutPatternsDecode
  decide

/-! ### Field patterns -/

/-- A two-bit selector is one of the four codes of its table (R58, R59). -/
theorem typeCode_cases (tc : BitVec 2) : tc = 0 ∨ tc = 1 ∨ tc = 2 ∨ tc = 3 := by
  revert tc
  decide

theorem decodeShiftImmSel_append (tc : BitVec 2) (i5 : BitVec 5) :
    decodeShiftImmSel (tc ++ i5) =
      if tc = 0 then .selLslImm i5
      else if tc = 1 then (if i5 = 0 then .selLsr32 else .selLsrImm i5)
      else if tc = 2 then (if i5 = 0 then .selAsr32 else .selAsrImm i5)
      else (if i5 = 0 then .selRrx else .selRorImm i5) := by
  simp only [decodeShiftImmSel, extractLsb'_append_upper tc i5, extractLsb'_append_lower tc i5]
  obtain rfl | rfl | rfl | rfl := typeCode_cases tc
  all_goals rfl

/-- Settles O23: a selector pattern is read by `decodeShiftImmSel`, an exact row before the pattern row. -/
theorem allSelectorPatternsAreAssigned : Obligations.AllSelectorPatternsAreAssigned := decodeShiftImmSel_append

/-! ### Well-formedness of what is decoded -/

theorem decodeOp_wf (r : Request) : (decodeOp r).wf = true := by
  unfold decodeOp
  split <;> rfl

theorem decodeKind_wf (code : BitVec 3) (r : Request) : (decodeKind code r).wf = true := by
  unfold decodeKind
  split <;> rfl

theorem decodeShiftImmSel_wf (selector : BitVec 7) : (decodeShiftImmSel selector).wf = true := by
  revert selector
  decide

theorem decodeShiftRegSel_wf (selector : BitVec 2) : (decodeShiftRegSel selector).wf = true := by
  revert selector
  decide

theorem decodeImm12A_wf (field12 : BitVec 12) (c : Carry) : (decodeImm12A field12 c).wf = true := by
  simp only [decodeImm12A]
  split
  case isTrue => rfl
  case isFalse hne => simpa [Instr.wf] using hne

theorem decodeImm12BReplicated_wf (field12 : BitVec 12) (c : Carry) : (decodeImm12BReplicated field12 c).wf = true := by
  simp only [decodeImm12BReplicated]
  split <;> rfl

/-- The two top bits of encoding B are those of its rotate amount (R61). -/
theorem extractLsb'_rotateAmount (field12 : BitVec 12) :
    (field12.extractLsb' 7 5).extractLsb' 3 2 = field12.extractLsb' 10 2 := by
  apply BitVec.eq_of_getLsbD_eq
  intro j hj
  have hj' : 3 + j < 5 := by omega
  simp [hj, hj', ← Nat.add_assoc]

theorem decodeImm12B_wf (field12 : BitVec 12) (c : Carry) : (decodeImm12B field12 c).wf = true := by
  simp only [decodeImm12B]
  split
  case h_1 => exact decodeImm12BReplicated_wf field12 c
  all_goals
    next htop =>
      simp only [Instr.wf, rotateInRow, extractLsb'_rotateAmount, htop]
      rfl

theorem decodePattern_wf (p : FieldPattern) (r : Request) : (decodePattern p r).wf = true := by
  cases p with
  | kind code => exact decodeKind_wf code r
  | shiftImmSel selector => exact decodeShiftImmSel_wf selector
  | shiftRegSel selector => exact decodeShiftRegSel_wf selector
  | imm12A field12 => exact decodeImm12A_wf field12 r.carryIn
  | imm12B field12 => exact decodeImm12B_wf field12 r.carryIn
  | wordGather word => rfl
  | wordImm7 word => rfl

/-- Settles O5: a request on the ports decodes to a row without a side condition, a pattern to a row whose condition its
decoder has tested. -/
theorem decodedInstructionsAreWellFormed : Obligations.DecodedInstructionsAreWellFormed := by
  intro r
  unfold decode
  split
  · exact decodeOp_wf r
  · exact decodePattern_wf _ r

end Sys2Proof.Machine
end

section
/-! PROOFS. Responses (10_state.md sections 2 to 4, 60_exceptions.md section 4): that every request is answered, that an
answer changes the outputs only and depends on the request alone, and the obligations O6, O7, O9, O13, O16 and O17. -/

namespace Sys2Proof.Machine

/-! ### What an instruction leaves unchanged -/

/-- Settles O13: a next state differs from the one before in the response and the counter. -/
theorem instructionsChangeOnlyTheOutputs : Obligations.InstructionsChangeOnlyTheOutputs := by
  intro i s t h
  obtain ⟨t', ht', o, rfl⟩ := exec_responds i s
  cases ht'.symm.trans h
  exact ⟨rfl, rfl, rfl⟩

/-- The outputs that may be read after a step are those of the operation its request selects. -/
theorem readable_of_step {s t : State} (h : step s = .next t) :
    t.readable = t.out.readable (drivesOf (decode s.inp)) := by
  obtain ⟨hinp, -, -⟩ := instructionsChangeOnlyTheOutputs _ s t h
  rw [State.readable, hinp]

/-- Two requests that decode alike are answered alike, whatever else the two states hold. -/
theorem step_readable_of_decode_eq {s s' t t' : State} (hdecode : decode s.inp = decode s'.inp)
    (hlsb : s.imm7Lsb = s'.imm7Lsb) (h : step s = .next t) (h' : step s' = .next t') : t.readable = t'.readable := by
  rw [readable_of_step h, readable_of_step h', ← hdecode]
  rw [step, ← hdecode] at h'
  exact exec_readable hlsb h h'

/-! ### What a response depends on -/

/-- An operation's operands are the ports the table lists for it (R55). -/
theorem decodeOp_eq_of_sameReadPorts {r r' : Request} (h : SameReadPorts r r') : decodeOp r = decodeOp r' := by
  obtain ⟨hop, hports⟩ := h
  unfold decodeOp
  rw [← hop]
  split <;> simp_all

/-- Settles O6: requests that agree on the ports that are read decode to the same instruction. -/
theorem unreadPortsNeverMatter : Obligations.UnreadPortsNeverMatter := by
  intro s s' t t' hports hports' hsame hlsb h h'
  refine step_readable_of_decode_eq ?_ hlsb h h'
  rw [decode_of_pattern_none hports, decode_of_pattern_none hports', decodeOp_eq_of_sameReadPorts hsame]

/-- Settles O7: the earlier request leaves nothing behind that the later answer could read. -/
theorem responsesIgnoreEarlierRequests : Obligations.ResponsesIgnoreEarlierRequests := by
  intro r r' s t u v ht hu hv
  obtain ⟨-, hlsb, -⟩ := instructionsChangeOnlyTheOutputs _ _ _ ht
  exact step_readable_of_decode_eq (s := t.present r') (s' := s.present r') rfl hlsb hu hv

/-- Settles O16: the request still stands on the ports, and it decodes as before. -/
theorem repeatedRequestsRepeatTheResponse : Obligations.RepeatedRequestsRepeatTheResponse := by
  intro s t h
  obtain ⟨hinp, hlsb, -⟩ := instructionsChangeOnlyTheOutputs _ _ _ h
  obtain ⟨u, hu, -⟩ := exec_responds (decode t.inp) t
  obtain ⟨hinp', -, -⟩ := instructionsChangeOnlyTheOutputs _ _ _ hu
  exact ⟨u, hu, step_readable_of_decode_eq (congrArg decode hinp) hlsb hu h, hinp'⟩

/-- Settles O17: the reset request is `DecodeImmShift(0, 0)`, whose answer the reset outputs show. -/
theorem resetIsSettled : Obligations.ResetIsSettled := ⟨_, rfl, rfl⟩

/-! ### One response, a result or a failure -/

/-- A response is a failure with its cause or a success without one (R33, R156). -/
def Response.Consistent (o : Response) : Prop := o.err = true ∧ o.errCause ≠ 0 ∨ o.err = false ∧ o.errCause = 0

theorem raiseInvalid_consistent (s : State) (c : Cause) : (s.raiseInvalid c).out.Consistent :=
  .inl ⟨rfl, causeCode_ne_zero c⟩

theorem answer_consistent {α : Type} {drive : State → α → State} {r : Except Cause α} {s t : State}
    (hd : ∀ a, (drive s a).out.err = false ∧ (drive s a).out.errCause = 0) (h : answer drive r s = .next t) :
    t.out.Consistent := by
  obtain ⟨a, -, rfl⟩ | ⟨c, -, rfl⟩ := answer_cases h
  · exact .inr (hd a)
  · exact raiseInvalid_consistent s c

/-- Every instruction answers through `answer`, or takes one fixed failure, or drives one fixed result. -/
theorem exec_consistent {i : Instr} {s t : State} (h : exec i s = .next t) : t.out.Consistent := by
  cases i
  case decodeImmShift => exact answer_consistent (drive := State.driveKindAmount) (fun _ => ⟨rfl, rfl⟩) h
  case decodeRegShift => exact answer_consistent (drive := State.driveKind) (fun _ => ⟨rfl, rfl⟩) h
  case applyShiftWithCarry | expandImmediateA | expandImmediateB | kindLsl | kindLsr | kindAsr | kindRor | kindRrx =>
    exact answer_consistent (drive := State.driveResultCarry) (fun _ => ⟨rfl, rfl⟩) h
  case applyShift | extractBits | extractBit =>
    exact answer_consistent (drive := State.driveResult) (fun _ => ⟨rfl, rfl⟩) h
  case unknownOpB | unknownOpC | unknownOpD | unknownOpE | unknownOpF =>
    cases h
    exact raiseInvalid_consistent s .unknownOp
  case badKind5 | badKind6 | badKind7 =>
    cases h
    exact raiseInvalid_consistent s .badKind
  all_goals
    cases h
    exact .inr ⟨rfl, rfl⟩

/-- Settles O9: every instruction gives a next state, and its response is consistent. -/
theorem everyRequestIsAnswered : Obligations.EveryRequestIsAnswered := by
  intro s
  obtain ⟨t, h, -⟩ := exec_responds (decode s.inp) s
  exact ⟨t, h, exec_consistent h⟩

end Sys2Proof.Machine
end

section
/-! PROOFS. Failures (30_encoding.md section 6, 60_exceptions.md section 3) and the ranges of the outputs (10_state.md
section 4): which requests are rejected and with which cause, what the driven outputs can hold, and the obligations O10,
O11, O12, O14 and O15. -/

namespace Sys2Proof.Machine

/-! ### The table of the rejected inputs -/

/-- The port codes that name no kind are those from 5 up (R57). -/
theorem kindOfCode_eq_none_iff (code : BitVec 3) : kindOfCode code = none ↔ 5 ≤ code.toNat := by
  revert code
  decide

/-- A port code that names a kind is that kind's code (R57). -/
theorem eq_kindCode_of_kindOfCode {code : BitVec 3} {k : ShiftKind} (h : kindOfCode code = some k) :
    code = kindCode k := by
  revert code
  cases k <;> decide

/-- The applier fails as its rows of the table say (R67). -/
theorem applyShiftCode_code (r : Request) :
    failureCode (applyShiftCode r.value r.kind r.amount.toNat r.carryIn) = rejectionCode.applierCode r := by
  unfold rejectionCode.applierCode
  cases hk : kindOfCode r.kind with
  | none =>
    rw [applyShiftCode_of_none hk, if_pos ((kindOfCode_eq_none_iff _).mp hk)]
    rfl
  | some k =>
    rw [applyShiftCode_of_kind hk, applyShiftWithCarry_code, eq_kindCode_of_kindOfCode hk]
    cases k <;> simp [kindCode, maxAmount] <;> rfl

/-- The cause of an answer is its outcome's, whatever ports a success drives. -/
theorem errCause_of_answer {α : Type} (drive : State → α → State) {r : Except Cause α} {s t : State}
    (hd : ∀ a, (drive s a).out.errCause = 0) (h : answer drive r s = .next t) : t.out.errCause = failureCode r := by
  obtain ⟨a, rfl, rfl⟩ | ⟨c, rfl, rfl⟩ := answer_cases h
  · exact hd a
  · rfl

/-- The cause of the answer to a request on the ports, operation by operation (R67, R159). -/
theorem errCause_of_exec_decodeOp {r : Request} {s t : State} (h : exec (decodeOp r) s = .next t) :
    t.out.errCause = rejectionCode r := by
  obtain ⟨op, value, typeCode, imm5, kind, amount, carryIn, field12, highBit, lowBit, regNum, pattern⟩ := r
  obtain rfl | rfl | rfl | rfl | rfl | rfl | rfl | rfl | rfl | rfl | rfl | rfl | rfl | rfl | rfl | rfl := op_cases op
  · exact (errCause_of_answer State.driveKindAmount (fun _ => rfl) h).trans (decodeImmShift_code _ _)
  · exact (errCause_of_answer State.driveKind (fun _ => rfl) h).trans (decodeRegShift_code _)
  · exact (errCause_of_answer State.driveResultCarry (fun _ => rfl) h).trans (applyShiftCode_code _)
  · exact (errCause_of_answer State.driveResult (fun _ => rfl) h).trans
      ((applyShift_code _ _ _ _).trans (applyShiftCode_code _))
  · exact (errCause_of_answer State.driveResultCarry (fun _ => rfl) h).trans (expandImmediateA_code _ _)
  · exact (errCause_of_answer State.driveResultCarry (fun _ => rfl) h).trans (expandImmediateB_code _ _)
  · cases h
    rfl
  · cases h
    rfl
  · refine (errCause_of_answer State.driveResult (fun _ => rfl) h).trans ((extractBits_code _ _ _).trans ?_)
    exact if_congr (by omega) rfl rfl
  · refine (errCause_of_answer State.driveResult (fun _ => rfl) h).trans ((extractBits_code _ _ _).trans ?_)
    exact if_congr (by omega) rfl rfl
  all_goals
    cases h
    rfl

/-- Settles O10: the cause is the table's, and `err` says whether there is one. -/
theorem rejectedInputsAreExactlyTheTable : Obligations.RejectedInputsAreExactlyTheTable := by
  intro s t hports h
  have hcause : t.out.errCause = rejectionCode s.inp := by
    rw [step, decode_of_pattern_none hports] at h
    exact errCause_of_exec_decodeOp h
  refine ⟨hcause, ?_⟩
  rw [← hcause]
  obtain ⟨herr, hne⟩ | ⟨herr, heq⟩ := exec_consistent h
  · exact iff_of_true herr hne
  · exact iff_of_false (by simp [herr]) (not_not_intro heq)

theorem rejectionCode_of_unknownOp {r : Request} (h : 0xB ≤ r.op.toNat) : rejectionCode r = 7 := by
  unfold rejectionCode
  split
  case h_12 => rfl
  all_goals omega

/-- Settles O11: on the ports by the last row of the table, and the reserved rows by their meaning. -/
theorem unknownOpCodesFail : Obligations.UnknownOpCodesFail := by
  refine ⟨fun s t hports hop h => ?_, fun s => ?_⟩
  · obtain ⟨hcause, herr⟩ := rejectedInputsAreExactlyTheTable s t hports h
    have hcode := rejectionCode_of_unknownOp hop
    exact ⟨herr.mpr (by rw [hcode]; decide), hcause.trans hcode⟩
  · exact ⟨⟨_, rfl, rfl, rfl⟩, ⟨_, rfl, rfl, rfl⟩, ⟨_, rfl, rfl, rfl⟩, ⟨_, rfl, rfl, rfl⟩, ⟨_, rfl, rfl, rfl⟩⟩

/-- Settles O12: the check of the kind code comes first, whatever the other operands are. -/
theorem codesThatAreNoKindFail : Obligations.CodesThatAreNoKindFail := by
  intro s v n k c hk
  have hcode := applyShiftCode_of_none ((kindOfCode_eq_none_iff k).mpr hk) v n.toNat c
  exact ⟨failsWith_of_answer (exec_applyShiftWithCarry v k n c s) hcode,
    failsWith_of_answer (exec_applyShift v k n c s) (applyShift_of_error hcode),
    ⟨_, rfl, rfl, rfl⟩, ⟨_, rfl, rfl, rfl⟩, ⟨_, rfl, rfl, rfl⟩⟩

/-! ### The ranges of the outputs -/

theorem readable_result_eq_some {o : Response} {d : Drives} {w : Word32} (h : (o.readable d).result = some w) :
    o.err = false ∧ o.result = w := by
  simp only [Response.readable] at h
  split at h <;> simp_all

theorem readable_kindOut_eq_some {o : Response} {d : Drives} {k : BitVec 3} (h : (o.readable d).kindOut = some k) :
    o.err = false ∧ d.kindOut = true ∧ o.kindOut = k := by
  simp only [Response.readable] at h
  split at h <;> simp_all

theorem readable_amountOut_eq_some {o : Response} {d : Drives} {a : Word32} (h : (o.readable d).amountOut = some a) :
    o.err = false ∧ d.amountOut = true ∧ o.amountOut = a := by
  simp only [Response.readable] at h
  split at h <;> simp_all

theorem shiftOperandOf_amount_le {tc i5 : Nat} (h : i5 ≤ 31) : (shiftOperandOf tc i5).2 ≤ 32 := by
  unfold shiftOperandOf
  split <;> (repeat' split) <;> omega

/-- A driven `kind_out` shows the code of a kind (R57). -/
theorem exec_kindOut {i : Instr} {s t : State} (h : exec i s = .next t) (herr : t.out.err = false)
    (hd : (drivesOf i).kindOut = true) : ∃ k, t.out.kindOut = kindCode k := by
  cases i
  case decodeImmShift =>
    obtain ⟨op, -, rfl⟩ | ⟨e, -, rfl⟩ := answer_cases (drive := State.driveKindAmount) h
    · exact ⟨op.1, rfl⟩
    · cases herr
  case decodeRegShift =>
    obtain ⟨k, -, rfl⟩ | ⟨e, -, rfl⟩ := answer_cases (drive := State.driveKind) h
    · exact ⟨k, rfl⟩
    · cases herr
  case selLslImm | selLsr32 | selLsrImm | selAsr32 | selAsrImm | selRrx | selRorImm =>
    cases h
    exact ⟨_, driveKindAmount_kindOut s _⟩
  case selLslReg | selLsrReg | selAsrReg | selRorReg =>
    cases h
    exact ⟨_, driveKind_kindOut s _⟩
  all_goals cases hd

/-- A driven `amount_out` is a normalised amount, at most 32 (R85). -/
theorem exec_amountOut_le {i : Instr} {s t : State} (h : exec i s = .next t) (herr : t.out.err = false)
    (hd : (drivesOf i).amountOut = true) : t.out.amountOut.toNat ≤ 32 := by
  have hle {n : Nat} (hn : n ≤ 32) : (BitVec.ofNat 32 n).toNat ≤ 32 := by
    rw [BitVec.toNat_ofNat]
    exact (Nat.mod_le _ _).trans hn
  cases i
  case decodeImmShift =>
    obtain ⟨op, hop, rfl⟩ | ⟨e, -, rfl⟩ := answer_cases (drive := State.driveKindAmount) h
    · obtain ⟨-, hi5, rfl⟩ := decodeImmShift_ok hop
      exact hle (shiftOperandOf_amount_le hi5)
    · cases herr
  case selLslImm i5 | selLsrImm i5 | selAsrImm i5 | selRorImm i5 =>
    cases h
    exact hle (by omega)
  case selLsr32 | selAsr32 | selRrx =>
    cases h
    exact hle (by decide)
  all_goals cases hd

theorem zeroExtendScatteredImmediate12_le (w : Word32) : (zeroExtendScatteredImmediate12 w).toNat ≤ 4095 := by
  rw [zeroExtendScatteredImmediate12, toNat_gatheredImmediate]
  omega

theorem scaledImmediate_range (imm7 : BitVec 7) :
    (scaledImmediate imm7).toNat ≤ 508 ∧ (scaledImmediate imm7).toNat % 4 = 0 := by
  rw [toNat_scaledImmediate]
  omega

theorem extractBit_le {v w : Word32} {b : Nat} (h : extractBit v b = .ok w) : w.toNat ≤ 1 := by
  unfold extractBit extractBits at h
  split at h
  · cases h
  · cases h
    have hlt := slice_lt v.toNat b b
    rw [toNat_ofNat_slice]
    simp at hlt
    omega

/-- A request on the ports is read with its op code in place. -/
theorem decode_of_op {r : Request} {op : BitVec 4} (hports : r.pattern = none) (hop : r.op = op) :
    decode r = decodeOp { r with op := op } := by
  rw [decode_of_pattern_none hports, ← hop]

/-- Settles O14: each range is one of the answer alone, whatever the outputs were before. -/
theorem stepKeepsOutputsInRange : Obligations.StepKeepsOutputsInRange := by
  intro s t _ h
  have hread := readable_of_step h
  obtain ⟨hinp, -, -⟩ := instructionsChangeOnlyTheOutputs _ _ _ h
  refine ⟨?cause, ?kind, ?amount, ?gather, ?scaled, ?bit, ?predicate⟩
  case cause =>
    obtain ⟨herr, hne⟩ | ⟨herr, heq⟩ := exec_consistent h
    · exact iff_of_false hne (by simp [herr])
    · exact iff_of_true heq herr
  case kind =>
    intro k hk
    obtain ⟨herr, hd, rfl⟩ := readable_kindOut_eq_some (hread ▸ hk)
    obtain ⟨kind, hkind⟩ := exec_kindOut h herr hd
    exact hkind ▸ kindCode_le kind
  case amount =>
    intro a ha
    obtain ⟨herr, hd, rfl⟩ := readable_amountOut_eq_some (hread ▸ ha)
    exact exec_amountOut_le h herr hd
  all_goals
    intro hports hop w hw
    rw [hinp] at hports hop
    obtain ⟨herr, rfl⟩ := readable_result_eq_some hw
    rw [step, decode_of_op hports hop] at h
  case gather =>
    cases h
    exact zeroExtendScatteredImmediate12_le _
  case scaled =>
    cases h
    exact scaledImmediate_range _
  case bit =>
    obtain ⟨b, hb, rfl⟩ | ⟨e, -, rfl⟩ := answer_cases (drive := State.driveResult) h
    · exact extractBit_le hb
    · cases herr
  case predicate =>
    cases h
    rw [driveResult_result]
    split <;> decide

/-- Settles O15: no failure is shown at reset, `kind_out` is LSL, `amount_out` is 0, and `op` is DecodeImmShift's. -/
theorem resetOutputsAreInRange : Obligations.ResetOutputsAreInRange := by
  refine ⟨by decide, ?kind, ?amount, ?_, ?_, ?_, ?_⟩
  case kind =>
    rintro _ ⟨⟩
    decide
  case amount =>
    rintro _ ⟨⟩
    decide
  all_goals exact fun _ hop => absurd hop (by decide)

end Sys2Proof.Machine
end

section
/-! PROOFS. Field patterns (30_encoding.md sections 1 to 4): each row of a pattern is answered as the operation that
decodes it answers the same bits on its port, and the obligations O8, O22 and O24. -/

namespace Sys2Proof.Machine

/-- Two instructions have one meaning at `s`, and what may be read of the answer is the same (R33). -/
def AnswersAs (i j : Instr) (s : State) : Prop :=
  exec i s = exec j s ∧ ∀ t, exec i s = .next t → t.out.readable (drivesOf i) = t.out.readable (drivesOf j)

theorem answersAs_of_drives_eq {i j : Instr} {s : State} (hexec : exec i s = exec j s)
    (hdrives : drivesOf i = drivesOf j) : AnswersAs i j s := ⟨hexec, fun _ _ => hdrives ▸ rfl⟩

/-- A request may be replaced by one that decodes to an instruction of the same meaning. -/
theorem AnswersAs.step_readable {s t t' : State} {r : Request} (ha : AnswersAs (decode s.inp) (decode r) s)
    (h : step s = .next t) (h' : step (s.present r) = .next t') : t.readable = t'.readable := by
  obtain ⟨hexec, hdrives⟩ := ha
  rw [readable_of_step h, readable_of_step h', hdrives t h]
  exact exec_readable (s := s) (s' := s.present r) rfl (hexec.symm.trans h) h'

/-! ### The rows of KIND -/

/-- A code that is no kind fails in its row and in the applier alike, so that no data output may be read (R33, R57). -/
theorem decodeKind_answersAs (code : BitVec 3) (r : Request) (s : State) :
    AnswersAs (decodeKind code r) (.applyShiftWithCarry r.value code r.amount r.carryIn) s := by
  cases hk : kindOfCode code with
  | some k =>
    obtain rfl := eq_kindCode_of_kindOfCode hk
    cases k <;> exact answersAs_of_drives_eq rfl rfl
  | none =>
    obtain rfl | rfl | rfl : code = 5 ∨ code = 6 ∨ code = 7 := by
      clear r s
      revert code
      decide
    all_goals exact ⟨rfl, by rintro _ ⟨⟩; rfl⟩

/-! ### The rows of SHIFT_IMM_SEL and SHIFT_REG_SEL -/

/-- The row of a selector drives the kind and amount of R85's table. -/
theorem exec_decodeShiftImmSel_append (tc : BitVec 2) (i5 : BitVec 5) (s : State) :
    exec (decodeShiftImmSel (tc ++ i5)) s = .next (s.driveKindAmount (shiftOperandOf tc.toNat i5.toNat)) := by
  rw [decodeShiftImmSel_append]
  obtain rfl | rfl | rfl | rfl := typeCode_cases tc
  case inl => rfl
  all_goals
    by_cases hi5 : i5 = 0#5
    · subst hi5
      rfl
    · have hne : i5.toNat ≠ 0 := BitVec.toNat_ne_iff_ne.mpr hi5
      simp [hi5, hne]
      rfl

theorem drivesOf_decodeShiftImmSel (sel : BitVec 7) : drivesOf (decodeShiftImmSel sel) = .kindAndAmount := by
  revert sel
  decide

/-- A selector is its `typeCode` joined to its `imm5`, which are its quotient and its remainder by 32 (R58). -/
theorem shiftImmSel_eq_append (sel : BitVec 7) :
    ∃ (tc : BitVec 2) (i5 : BitVec 5), sel = tc ++ i5 ∧ sel.toNat / 32 = tc.toNat ∧ sel.toNat % 32 = i5.toNat := by
  refine ⟨sel.extractLsb' 5 2, sel.extractLsb' 0 5, ?_⟩
  revert sel
  decide

theorem decodeShiftImmSel_answersAs (sel : BitVec 7) (s : State) :
    AnswersAs (decodeShiftImmSel sel)
      (.decodeImmShift (BitVec.ofNat 32 (sel.toNat / 32)) (BitVec.ofNat 32 (sel.toNat % 32))) s := by
  refine answersAs_of_drives_eq ?_ (drivesOf_decodeShiftImmSel sel)
  obtain ⟨tc, i5, rfl, htc, hi5⟩ := shiftImmSel_eq_append sel
  rw [exec_decodeShiftImmSel_append, exec_decodeImmShift, htc, hi5, BitVec.ofNat_toNat, BitVec.ofNat_toNat,
    BitVec.toNat_setWidth_of_le (by decide), BitVec.toNat_setWidth_of_le (by decide),
    decodeImmShift_of_le (by omega) (by omega), answer_ok]

theorem decodeShiftRegSel_answersAs (sel : BitVec 2) (s : State) :
    AnswersAs (decodeShiftRegSel sel) (.decodeRegShift (BitVec.ofNat 32 sel.toNat)) s := by
  obtain rfl | rfl | rfl | rfl := typeCode_cases sel
  all_goals exact answersAs_of_drives_eq rfl rfl

/-! ### The rows of IMM12_A and IMM12_B -/

theorem exec_expandImmediateA_ofNat (field12 : BitVec 12) (c : Carry) (s : State) :
    exec (.expandImmediateA (BitVec.ofNat 32 field12.toNat) c) s =
      answer State.driveResultCarry (expandImmediateA field12.toNat c) s := by
  rw [exec_expandImmediateA, BitVec.ofNat_toNat, BitVec.toNat_setWidth_of_le (by decide)]

theorem exec_expandImmediateB_ofNat (field12 : BitVec 12) (c : Carry) (s : State) :
    exec (.expandImmediateB (BitVec.ofNat 32 field12.toNat) c) s =
      answer State.driveResultCarry (expandImmediateB field12.toNat c) s := by
  rw [exec_expandImmediateB, BitVec.ofNat_toNat, BitVec.toNat_setWidth_of_le (by decide)]

/-- A field that reaches to the top of the pattern is a quotient of it. -/
theorem toNat_extractLsb'_top {w lo len : Nat} (x : BitVec w) (h : w = lo + len) :
    (x.extractLsb' lo len).toNat = x.toNat / 2 ^ lo := by
  have hx : x.toNat < 2 ^ lo * 2 ^ len := by
    rw [← Nat.pow_add, ← h]
    exact x.isLt
  rw [BitVec.extractLsb'_toNat, Nat.shiftRight_eq_div_pow, Nat.mod_eq_of_lt (Nat.div_lt_of_lt_mul hx)]

theorem toNat_extractLsb'_zero {w : Nat} (x : BitVec w) (len : Nat) :
    (x.extractLsb' 0 len).toNat = x.toNat % 2 ^ len := by
  rw [BitVec.extractLsb'_toNat, Nat.shiftRight_zero]

theorem decodeImm12A_answersAs (field12 : BitVec 12) (c : Carry) (s : State) :
    AnswersAs (decodeImm12A field12 c) (.expandImmediateA (BitVec.ofNat 32 field12.toNat) c) s := by
  have hsel : (field12.extractLsb' 8 4).toNat = field12.toNat / 256 := toNat_extractLsb'_top field12 rfl
  have himm : (field12.extractLsb' 0 8).toNat = field12.toNat % 256 := toNat_extractLsb'_zero field12 8
  rw [decodeImm12A]
  split
  case isTrue h =>
    have hlt : field12.toNat < 256 := by
      rw [h] at hsel
      change 0 = _ at hsel
      omega
    refine answersAs_of_drives_eq ?_ rfl
    rw [exec_expandImmediateA_ofNat, expandImmediateA_of_lt hlt, ← Nat.mod_eq_of_lt hlt, ← himm]
    rfl
  case isFalse h =>
    have hge : 256 ≤ field12.toNat := by
      have hne : (field12.extractLsb' 8 4).toNat ≠ 0 := BitVec.toNat_ne_iff_ne.mpr h
      omega
    refine answersAs_of_drives_eq ?_ rfl
    rw [exec_expandImmediateA_ofNat, expandImmediateA_of_ge hge (by omega), ← himm, ← hsel]
    rfl

theorem decodeImm12BReplicated_answersAs {field12 : BitVec 12} (hlt : field12.toNat < 1024) (c : Carry) (s : State) :
    AnswersAs (decodeImm12BReplicated field12 c) (.expandImmediateB (BitVec.ofNat 32 field12.toNat) c) s := by
  have hsel : (field12.extractLsb' 8 2).toNat = field12.toNat / 256 := by
    rw [BitVec.extractLsb'_toNat, Nat.shiftRight_eq_div_pow]
    omega
  have hbyte : (field12.extractLsb' 0 8).toNat = field12.toNat % 256 := toNat_extractLsb'_zero field12 8
  rw [decodeImm12BReplicated]
  split
  all_goals
    next h =>
    refine answersAs_of_drives_eq ?_ rfl
    rw [exec_expandImmediateB_ofNat, expandImmediateB_of_lt hlt, ← hbyte, ← hsel, h]
    rfl

theorem decodeImm12B_answersAs (field12 : BitVec 12) (c : Carry) (s : State) :
    AnswersAs (decodeImm12B field12 c) (.expandImmediateB (BitVec.ofNat 32 field12.toNat) c) s := by
  have htop : (field12.extractLsb' 10 2).toNat = field12.toNat / 1024 := toNat_extractLsb'_top field12 rfl
  have hrotate : (field12.extractLsb' 7 5).toNat = field12.toNat / 128 := toNat_extractLsb'_top field12 rfl
  have hlow7 : (field12.extractLsb' 0 7).toNat = field12.toNat % 128 := toNat_extractLsb'_zero field12 7
  rw [decodeImm12B]
  split
  case h_1 h =>
    have hlt : field12.toNat < 1024 := by
      rw [h] at htop
      change 0 = _ at htop
      omega
    exact decodeImm12BReplicated_answersAs hlt c s
  all_goals
    next h =>
    have hge : 1024 ≤ field12.toNat := by
      have hne : (field12.extractLsb' 10 2).toNat ≠ 0 := by
        rw [h]
        decide
      omega
    refine answersAs_of_drives_eq ?_ rfl
    rw [exec_expandImmediateB_ofNat, expandImmediateB_of_ge hge (by omega), ← hlow7, ← hrotate]
    rfl

/-! ### The rows of the word formats -/

theorem exec_scaledImmediate7 (w : Word32) (s : State) :
    exec (.scaledImmediate7 w) s = .next (s.driveResult (scaledImmediate7 s.imm7Lsb w)) := rfl

theorem imm7Word_answersAs {s : State} (hlsb : s.imm7Lsb = 0) (w : Word32) :
    AnswersAs (.imm7Word (w.extractLsb' 0 7)) (.scaledImmediate7 w) s := by
  refine answersAs_of_drives_eq ?_ rfl
  rw [exec_scaledImmediate7, hlsb]
  rfl

/-- Settles O8: pattern by pattern, the row means what the operation on the port means. -/
theorem patternRequestsAgreeWithTheirOperation : Obligations.PatternRequestsAgreeWithTheirOperation := by
  rintro ⟨r, lsb, out, n⟩ t t' hword h h'
  refine AnswersAs.step_readable ?_ h h'
  obtain ⟨op, value, typeCode, imm5, kind, amount, carryIn, field12, highBit, lowBit, regNum, pattern⟩ := r
  match pattern with
  | none => exact answersAs_of_drives_eq rfl rfl
  | some (.kind code) => exact decodeKind_answersAs code _ _
  | some (.shiftImmSel sel) => exact decodeShiftImmSel_answersAs sel _
  | some (.shiftRegSel sel) => exact decodeShiftRegSel_answersAs sel _
  | some (.imm12A f) => exact decodeImm12A_answersAs f carryIn _
  | some (.imm12B f) => exact decodeImm12B_answersAs f carryIn _
  | some (.wordGather w) => exact answersAs_of_drives_eq rfl rfl
  | some (.wordImm7 w) => exact imm7Word_answersAs (hword ⟨w, rfl⟩) w

/-! ### The rows of the shift-type decoder, answered -/

/-- Settles O22: each row drives one kind and one amount, and `imm5` fits the amount port. -/
theorem shiftImmediateRowsAnswer : Obligations.ShiftImmediateRowsAnswer := by
  intro s i5
  have hi5 : (BitVec.ofNat 32 i5.toNat).toNat = i5.toNat := by
    rw [BitVec.ofNat_toNat, BitVec.toNat_setWidth_of_le (by decide)]
  exact ⟨⟨_, rfl, rfl, rfl, rfl, hi5⟩, ⟨_, rfl, rfl, rfl, rfl, rfl⟩, ⟨_, rfl, rfl, rfl, rfl, hi5⟩,
    ⟨_, rfl, rfl, rfl, rfl, rfl⟩, ⟨_, rfl, rfl, rfl, rfl, hi5⟩, ⟨_, rfl, rfl, rfl, rfl, rfl⟩,
    ⟨_, rfl, rfl, rfl, rfl, hi5⟩⟩

/-- Settles O24: each row drives its kind, and each selector is read as its row. -/
theorem shiftRegisterRowsAnswer : Obligations.ShiftRegisterRowsAnswer := fun _ =>
  ⟨⟨_, rfl, rfl, rfl, rfl⟩, ⟨_, rfl, rfl, rfl, rfl⟩, ⟨_, rfl, rfl, rfl, rfl⟩, ⟨_, rfl, rfl, rfl, rfl⟩,
    rfl, rfl, rfl, rfl⟩

end Sys2Proof.Machine
end

section
/-! PROOFS. The Shift-Type Decoder beside the applier (40_shift_type_decoder.md): every decoded shift is accepted, no
two selectors give the same one, and the obligations O20 and O21. -/

namespace Sys2Proof.Machine

/-! ### What the applier reads from the decoder's ports -/

/-- The applier on a kind's port code is the applier on the kind (R57, R95). -/
theorem applyShiftCode_kindCode (v : Word32) (k : ShiftKind) (n : Nat) (c : Carry) :
    applyShiftCode v (kindCode k) n c = applyShiftWithCarry v k n c :=
  applyShiftCode_of_kind (kindOfCode_kindCode k) v n c

/-- An amount of at most 32 fits the amount port. -/
theorem toNat_ofNat_amount {n : Nat} (h : n ≤ 32) : (BitVec.ofNat 32 n).toNat = n := by
  rw [BitVec.toNat_ofNat, Nat.mod_eq_of_lt (by omega)]

/-- A decoded shift is RRX by 1 or an amount in the range of another kind (R87). -/
theorem shiftOperandOf_accepted {tc i5 : Nat} (hi5 : i5 ≤ 31) :
    shiftOperandOf tc i5 = (.rrx, 1) ∨
      (shiftOperandOf tc i5).1 ≠ .rrx ∧ (shiftOperandOf tc i5).2 ≤ maxAmount (shiftOperandOf tc i5).1 := by
  unfold shiftOperandOf
  split
  · exact .inr ⟨by simp, hi5⟩
  · exact .inr ⟨by simp, by simp only [maxAmount]; split <;> omega⟩
  · exact .inr ⟨by simp, by simp only [maxAmount]; split <;> omega⟩
  · split
    · exact .inl rfl
    · exact .inr ⟨by simp, hi5⟩

theorem applyShiftWithCarry_ok_of_decoded {tc i5 : Nat} (hi5 : i5 ≤ 31) (v : Word32) (c : Carry) :
    ∃ rc, applyShiftWithCarry v (shiftOperandOf tc i5).1 (shiftOperandOf tc i5).2 c = .ok rc := by
  obtain h | ⟨hk, hn⟩ := shiftOperandOf_accepted (tc := tc) hi5
  · rw [h]
    exact ⟨_, applyShiftWithCarry_rrx v 1 c⟩
  · exact applyShiftWithCarry_ok_of_le hk hn v c

/-- The register form never gives RRX (R86). -/
theorem decodeRegShift_ne_rrx {tc : Nat} {k : ShiftKind} (h : decodeRegShift tc = .ok k) : k ≠ .rrx := by
  unfold decodeRegShift at h
  split at h <;> cases h <;> decide

/-- A kind other than RRX accepts every amount of five bits (R95). -/
theorem le_maxAmount {k : ShiftKind} (hk : k ≠ .rrx) {n : Nat} (hn : n ≤ 31) : n ≤ maxAmount k := by
  cases k
  case rrx => contradiction
  all_goals
    simp only [maxAmount]
    omega

/-- A DecodeImmShift without failure had its operands in the domain and drives its row of the table (R85). -/
theorem exec_decodeImmShift_ok {s t : State} {tc i5 : Word32} (h : exec (.decodeImmShift tc i5) s = .next t)
    (herr : t.out.err = false) :
    tc.toNat ≤ 3 ∧ i5.toNat ≤ 31 ∧ t = s.driveKindAmount (shiftOperandOf tc.toNat i5.toNat) := by
  obtain ⟨op, hop, rfl⟩ | ⟨e, -, rfl⟩ := answer_cases (drive := State.driveKindAmount) h
  · obtain ⟨htc, hi5, rfl⟩ := decodeImmShift_ok hop
    exact ⟨htc, hi5, rfl⟩
  · cases herr

/-- Settles O20: the decoded amount is in the range of the decoded kind, which is what the applier checks. -/
theorem decodedShiftsAreAccepted : Obligations.DecodedShiftsAreAccepted := by
  refine ⟨fun s t tc i5 v c h herr => ?_, fun s t tc v n c h herr hn => ?_⟩
  · obtain ⟨-, hi5, rfl⟩ := exec_decodeImmShift_ok h herr
    obtain ⟨rc, hrc⟩ := applyShiftWithCarry_ok_of_decoded (tc := tc.toNat) hi5 v c
    refine succeeds_of_answer (a := rc) ⟨rfl, rfl⟩ (exec_applyShiftWithCarry _ _ _ _ _) ?_ trivial
    rw [driveKindAmount_kindOut, driveKindAmount_amountOut, applyShiftCode_kindCode,
      toNat_ofNat_amount (shiftOperandOf_amount_le hi5)]
    exact hrc
  · obtain ⟨k, hk, rfl⟩ | ⟨e, -, rfl⟩ := answer_cases (drive := State.driveKind) h
    · have hne := decodeRegShift_ne_rrx hk
      obtain ⟨rc, hrc⟩ := applyShiftWithCarry_ok_of_le hne (le_maxAmount hne hn) v c
      refine ⟨?_, succeeds_of_answer (a := rc) ⟨rfl, rfl⟩ (exec_applyShiftWithCarry _ _ _ _ _) ?_ trivial⟩
      · rw [driveKind_kindOut]
        revert hne
        cases k <;> decide
      · rw [driveKind_kindOut, applyShiftCode_kindCode]
        exact hrc
    · cases herr

/-! ### One selector for each decoded shift -/

/-- The selector that gives a kind and amount: the inverse of R85's table. -/
def selectorOf : ShiftKind × Nat → Nat × Nat
  | (.lsl, n) => (0, n)
  | (.lsr, n) => (1, n % 32)
  | (.asr, n) => (2, n % 32)
  | (.ror, n) => (3, n)
  | (.rrx, _) => (3, 0)

theorem selectorOf_shiftOperandOf : ∀ tc ≤ 3, ∀ i5 ≤ 31, selectorOf (shiftOperandOf tc i5) = (tc, i5) := by decide

/-- The ports show a decoded shift in full, and so its selector (R88). -/
theorem selector_eq_of_ports_eq {tc i5 tc' i5' : Nat} (htc : tc ≤ 3) (hi5 : i5 ≤ 31) (htc' : tc' ≤ 3) (hi5' : i5' ≤ 31)
    (hkind : kindCode (shiftOperandOf tc i5).1 = kindCode (shiftOperandOf tc' i5').1)
    (hamount : BitVec.ofNat 32 (shiftOperandOf tc i5).2 = BitVec.ofNat 32 (shiftOperandOf tc' i5').2) :
    tc = tc' ∧ i5 = i5' := by
  have hk : (shiftOperandOf tc i5).1 = (shiftOperandOf tc' i5').1 := by
    simpa only [kindOfCode_kindCode, Option.some.injEq] using congrArg kindOfCode hkind
  have hn : (shiftOperandOf tc i5).2 = (shiftOperandOf tc' i5').2 := by
    simpa only [toNat_ofNat_amount (shiftOperandOf_amount_le hi5), toNat_ofNat_amount (shiftOperandOf_amount_le hi5')]
      using congrArg BitVec.toNat hamount
  have hsel := congrArg selectorOf (Prod.ext hk hn)
  rwa [selectorOf_shiftOperandOf _ htc _ hi5, selectorOf_shiftOperandOf _ htc' _ hi5', Prod.mk.injEq] at hsel

/-- No selector gives an amount outside its kind's decoded range (R88). -/
theorem shiftOperandOf_notMem : ∀ tc ≤ 3, ∀ i5 ≤ 31,
    (kindCode (shiftOperandOf tc i5).1, BitVec.ofNat 32 (shiftOperandOf tc i5).2) ∉
      ([(0b000, 32), (0b011, 0), (0b011, 32), (0b001, 0), (0b010, 0)] : List (BitVec 3 × Word32)) := by
  decide

/-- Settles O21: the table has an inverse, and its 128 rows avoid the five pairs. -/
theorem decodeImmShiftIsOneToOne : Obligations.DecodeImmShiftIsOneToOne := by
  intro s t t' tc i5 tc' i5' h herr
  obtain ⟨htc, hi5, rfl⟩ := exec_decodeImmShift_ok h herr
  refine ⟨fun h' herr' hkind hamount => ?_, shiftOperandOf_notMem _ htc _ hi5⟩
  obtain ⟨htc', hi5', rfl⟩ := exec_decodeImmShift_ok h' herr'
  obtain ⟨htceq, hi5eq⟩ := selector_eq_of_ports_eq htc hi5 htc' hi5' hkind hamount
  exact ⟨BitVec.eq_of_toNat_eq htceq, BitVec.eq_of_toNat_eq hi5eq⟩

end Sys2Proof.Machine
end

section
/-! PROOFS. The units of the Shift Applier (41_shift_applier.md sections 1, 2 and 4) in ApplyShiftWithCarry and in the
rows of KIND: what each gives on its amounts, which amounts fail, and the obligations O25 and O27 to O32. -/

namespace Sys2Proof.Machine

/-! ### The two instructions of a unit -/

/-- The row of KIND of a shift kind (R57). -/
def kindRow (k : ShiftKind) (v n : Word32) (c : Carry) : Instr :=
  match k with
  | .lsl => .kindLsl v n c
  | .lsr => .kindLsr v n c
  | .asr => .kindAsr v n c
  | .ror => .kindRor v n c
  | .rrx => .kindRrx v n c

theorem exec_kindRow (k : ShiftKind) (v n : Word32) (c : Carry) (s : State) :
    exec (kindRow k v n c) s = answer State.driveResultCarry (applyShiftWithCarry v k n.toNat c) s := by
  cases k <;> rfl

theorem exec_applyShiftWithCarry_kindCode (k : ShiftKind) (v n : Word32) (c : Carry) (s : State) :
    exec (.applyShiftWithCarry v (kindCode k) n c) s =
      answer State.driveResultCarry (applyShiftWithCarry v k n.toNat c) s := by
  rw [exec_applyShiftWithCarry, applyShiftCode_kindCode]

/-- The operation with the kind's code and the kind's own row have one meaning (R57, R95). -/
theorem exec_of_mem_unit {k : ShiftKind} {v n : Word32} {c : Carry} {i : Instr}
    (hi : i ∈ [Instr.applyShiftWithCarry v (kindCode k) n c, kindRow k v n c]) (s : State) :
    exec i s = answer State.driveResultCarry (applyShiftWithCarry v k n.toNat c) s := by
  obtain rfl | hi := List.mem_cons.mp hi
  · exact exec_applyShiftWithCarry_kindCode k v n c s
  · obtain rfl := List.mem_singleton.mp hi
    exact exec_kindRow k v n c s

/-- Both instructions of a kind other than RRX give the unit's result and carry, from amount 1 to the kind's bound. -/
theorem succeeds_of_unit {k : ShiftKind} {v n : Word32} {c : Carry} {s : State} {P : Response → Prop} (hk : k ≠ .rrx)
    (h1 : 1 ≤ n.toNat) (hn : n.toNat ≤ maxAmount k) (hP : P (s.driveResultCarry (shiftUnit v k n.toNat c)).out) :
    ∀ i ∈ [Instr.applyShiftWithCarry v (kindCode k) n c, kindRow k v n c], Succeeds i s P := fun _ hi =>
  succeeds_of_answer ⟨rfl, rfl⟩ (exec_of_mem_unit hi s) (applyShiftWithCarry_unit hk (by omega) hn) hP

/-! ### The five units -/

/-- Settles O27: the unit is a left shift of the word, read as a number and as bits. -/
theorem lslShiftsLeft : Obligations.LslShiftsLeft := by
  intro s v n c h1 h31
  refine succeeds_of_unit (k := .lsl) (by decide) h1 h31 ⟨?number, fun j hj => ?bits, rfl⟩
  case number =>
    change (v <<< n.toNat).toNat = _
    rw [BitVec.toNat_shiftLeft, Nat.shiftLeft_eq]
  case bits =>
    change (v <<< n.toNat).getLsbD j = _
    simp only [BitVec.getLsbD_shiftLeft, hj, decide_true, Bool.true_and, ← decide_not, Nat.not_lt]

/-- Settles O28: the unit is a right shift of the word, and above bit 31 there is nothing to shift in. -/
theorem lsrShiftsRight : Obligations.LsrShiftsRight := by
  intro s v n c h1 h32
  refine succeeds_of_unit (k := .lsr) (by decide) h1 h32 ⟨?number, fun j _ => ?bits, rfl⟩
  case number =>
    change (v >>> n.toNat).toNat = _
    rw [BitVec.toNat_ushiftRight, Nat.shiftRight_eq_div_pow]
  case bits =>
    change (v >>> n.toNat).getLsbD j = _
    rw [BitVec.getLsbD_ushiftRight, Nat.add_comm]
    by_cases hle : j + n.toNat ≤ 31
    · simp [hle]
    · rw [BitVec.getLsbD_of_ge _ _ (by omega), decide_eq_false hle, Bool.false_and]

/-- Settles O29: the unit's number and bits are its laws. -/
theorem asrShiftsRightWithTheSign : Obligations.AsrShiftsRightWithTheSign := by
  intro s v n c h1 h32
  exact succeeds_of_unit (k := .asr) (by decide) h1 h32
    ⟨toInt_unitAsr v n.toNat h32, fun j hj => getLsbD_unitAsr v n.toNat j h32 hj, rfl⟩

/-- Settles O30: the unit's bits are the law of `ROR32`, and its carry is read before the rotation. -/
theorem rorRotatesAndKeepsTheOldTopBitAsCarry : Obligations.RorRotatesAndKeepsTheOldTopBitAsCarry := by
  intro s v n c h1 h31
  exact succeeds_of_unit (k := .ror) (by decide) h1 h31
    ⟨fun j hj => getLsbD_ror32 v n.toNat j (by omega) hj, rfl⟩

/-- Settles O31: the amount decides, and the unit's bits and ring are its laws. -/
theorem rrxTurnsTheRingByOne : Obligations.RrxTurnsTheRingByOne := by
  intro s v n c i hi
  have he := exec_of_mem_unit (k := .rrx) hi s
  rw [applyShiftWithCarry_rrx] at he
  refine ⟨fun hn => ?accepted, fun hn => ?rejected⟩
  case accepted =>
    subst hn
    refine succeeds_of_answer ⟨rfl, rfl⟩ he (if_pos rfl) ⟨?top, fun j hj => ?below, rfl, rrx_ring v c⟩
    case top => exact getLsbD_unitRrx v c 31 (by decide)
    case below => exact (getLsbD_unitRrx v c j (by omega)).trans (if_neg (by omega))
  case rejected => exact failsWith_of_answer he (if_neg (BitVec.toNat_ne_iff_ne.mpr hn))

/-! ### Amounts outside the units -/

/-- An amount above a kind's bound fails in every instruction of the kind (R103). -/
theorem failsWith_amountRange {k : ShiftKind} {n : Word32} (hk : k ≠ .rrx) (hn : maxAmount k < n.toNat) (v : Word32)
    (c : Carry) (s : State) :
    ∀ i ∈ [Instr.applyShiftWithCarry v (kindCode k) n c, .applyShift v (kindCode k) n c, kindRow k v n c],
      FailsWith i s 4 := by
  have hrange := applyShiftWithCarry_range (v := v) (c := c) hk hn
  simp only [List.forall_mem_cons]
  refine ⟨?_, ?_, ?_, by simp⟩
  · exact failsWith_of_answer (exec_applyShiftWithCarry_kindCode k v n c s) hrange
  · exact failsWith_of_answer (exec_applyShift v (kindCode k) n c s)
      (applyShift_of_error ((applyShiftCode_kindCode v k n.toNat c).trans hrange))
  · exact failsWith_of_answer (exec_kindRow k v n c s) hrange

/-- Settles O32: the three instructions of each of the two kinds that share a bound. -/
theorem amountsAboveTheRangeFail : Obligations.AmountsAboveTheRangeFail := by
  intro s v n c
  constructor
  · intro hn
    have hlsl := failsWith_amountRange (k := .lsl) (by decide) hn v c s
    have hror := failsWith_amountRange (k := .ror) (by decide) hn v c s
    exact List.forall_mem_append.mpr ⟨hlsl, hror⟩
  · intro hn
    have hlsr := failsWith_amountRange (k := .lsr) (by decide) hn v c s
    have hasr := failsWith_amountRange (k := .asr) (by decide) hn v c s
    exact List.forall_mem_append.mpr ⟨hlsr, hasr⟩

/-- A port code up to 3 is that of a kind other than RRX (R57). -/
theorem exists_kind_of_le {code : BitVec 3} (h : code.toNat ≤ 3) : ∃ k : ShiftKind, k ≠ .rrx ∧ code = kindCode k := by
  obtain rfl | rfl | rfl | rfl : code = 0 ∨ code = 1 ∨ code = 2 ∨ code = 3 := by
    revert code
    decide
  · exact ⟨.lsl, by decide, rfl⟩
  · exact ⟨.lsr, by decide, rfl⟩
  · exact ⟨.asr, by decide, rfl⟩
  · exact ⟨.ror, by decide, rfl⟩

/-- Amount 0 keeps the value and the carry in every instruction of a kind other than RRX (R96). -/
theorem succeeds_of_amountZero {k : ShiftKind} {i : Instr} {s : State} {v : Word32} {c : Carry} (hk : k ≠ .rrx)
    (he : exec i s = answer State.driveResultCarry (applyShiftWithCarry v k 0 c) s) :
    Succeeds i s fun o => o.result = v ∧ o.carryOut = c :=
  succeeds_of_answer ⟨rfl, rfl⟩ he (applyShiftWithCarry_zero hk) ⟨rfl, rfl⟩

/-- Apart from RRX and from amount 0 the carry is not read (R24). -/
theorem applyShiftWithCarry_carry_irrelevant {k : ShiftKind} {n : Nat} (hk : k ≠ .rrx) (hn : n ≠ 0) (v : Word32)
    (c c' : Carry) : applyShiftWithCarry v k n c = applyShiftWithCarry v k n c' := by
  have hunit : shiftUnit v k n c = shiftUnit v k n c' := by
    cases k
    case rrx => contradiction
    all_goals rfl
  simp only [applyShiftWithCarry, hk, hn, if_false, hunit]

theorem exec_applyShiftWithCarry_carry_irrelevant {code : BitVec 3} {n : Word32} (hcode : code.toNat ≤ 3) (hn : n ≠ 0)
    (v : Word32) (c c' : Carry) (s : State) :
    exec (.applyShiftWithCarry v code n c) s = exec (.applyShiftWithCarry v code n c') s := by
  obtain ⟨k, hk, rfl⟩ := exists_kind_of_le hcode
  rw [exec_applyShiftWithCarry_kindCode, exec_applyShiftWithCarry_kindCode,
    applyShiftWithCarry_carry_irrelevant hk (BitVec.toNat_ne_iff_ne.mpr hn) v c c']

/-- The decoder gives amount 0 with LSL only (R96). -/
theorem kindCode_of_amountZero : ∀ tc ≤ 3, ∀ i5 ≤ 31, BitVec.ofNat 32 (shiftOperandOf tc i5).2 = 0 →
    kindCode (shiftOperandOf tc i5).1 = 0b000 := by
  decide

/-- Settles O25: amount 0 before the units, the amount check of RRX, the units without a carry, the decoder's table. -/
theorem amountZeroKeepsValueAndCarry : Obligations.AmountZeroKeepsValueAndCarry := by
  intro s v n k c c'
  refine ⟨fun hk => ?kept, fun i hi => ?rejected,
    fun hk hn => exec_applyShiftWithCarry_carry_irrelevant hk hn v c c' s, fun t tc i5 h herr hzero => ?decoder⟩
  case kept =>
    obtain ⟨kind, hkind, rfl⟩ := exists_kind_of_le hk
    simp only [List.forall_mem_cons]
    refine ⟨succeeds_of_amountZero hkind (exec_applyShiftWithCarry_kindCode kind v 0 c s), ?_, ?_, ?_, ?_, by simp⟩
    · exact succeeds_of_amountZero (k := .lsl) (by decide) rfl
    · exact succeeds_of_amountZero (k := .lsr) (by decide) rfl
    · exact succeeds_of_amountZero (k := .asr) (by decide) rfl
    · exact succeeds_of_amountZero (k := .ror) (by decide) rfl
  case rejected =>
    obtain ⟨-, hfails⟩ := rrxTurnsTheRingByOne s v 0 c i hi
    exact hfails (by decide)
  case decoder =>
    obtain ⟨htc, hi5, rfl⟩ := exec_decodeImmShift_ok h herr
    exact kindCode_of_amountZero _ htc _ hi5 hzero

end Sys2Proof.Machine
end

section
/-! PROOFS. Shifts in a row (41_shift_applier.md section 5, 95_test_vectors.md section 3): the round trips of pairs of
units, the ring that RRX turns, the shift of a double word, and the obligations O34, O36 and O37. -/

namespace Sys2Proof.Machine

/-! ### Pairs of units -/

/-- ApplyShift by an amount of 1 to the kind's bound answers the unit's word (R102). -/
theorem exec_applyShift_unit {k : ShiftKind} {n : Word32} (hk : k ≠ .rrx) (h1 : 1 ≤ n.toNat)
    (hn : n.toNat ≤ maxAmount k) (v : Word32) (c : Carry) (s : State) :
    exec (.applyShift v (kindCode k) n c) s = .next (s.driveResult (shiftUnit v k n.toNat c).1) := by
  have hunit := applyShiftWithCarry_unit (v := v) (c := c) hk (by omega) hn
  exact (exec_applyShift_of_ok ((applyShiftCode_kindCode v k n.toNat c).trans hunit) s).2

/-- ROR by the amounts that are left of the word gives the value back (R104). -/
theorem ror32_ror32 (v : Word32) {n : Nat} (h1 : 1 ≤ n) (h31 : n ≤ 31) : ror32 (ror32 v n) (32 - n) = v := by
  apply BitVec.eq_of_getLsbD_eq
  intro j hj
  rw [getLsbD_ror32 _ _ _ (by omega) hj, getLsbD_ror32 _ _ _ (by omega) (Nat.mod_lt _ (by decide))]
  congr 1
  omega

/-- Left and right again clears the top `n` bits (R104). -/
theorem toNat_shiftLeft_ushiftRight (v : Word32) {n : Nat} (hn : n ≤ 31) :
    ((v <<< n) >>> n).toNat = v.toNat % 2 ^ (32 - n) := by
  have hpow : 2 ^ 32 = 2 ^ (32 - n) * 2 ^ n := by
    rw [← Nat.pow_add]
    congr 1
    omega
  rw [BitVec.toNat_ushiftRight, BitVec.toNat_shiftLeft, Nat.shiftLeft_eq, Nat.shiftRight_eq_div_pow, hpow,
    Nat.mul_mod_mul_right, Nat.mul_div_cancel _ (by positivity)]

/-- Right and left again clears the low `n` bits (R104). -/
theorem toNat_ushiftRight_shiftLeft (v : Word32) (n : Nat) :
    ((v >>> n) <<< n).toNat = v.toNat - v.toNat % 2 ^ n := by
  have hdiv : v.toNat / 2 ^ n * 2 ^ n = v.toNat - v.toNat % 2 ^ n := Nat.div_mul_self_eq_mod_sub_self
  rw [BitVec.toNat_shiftLeft, BitVec.toNat_ushiftRight, Nat.shiftLeft_eq, Nat.shiftRight_eq_div_pow, hdiv]
  exact Nat.mod_eq_of_lt (by omega)

/-- Settles O34: both requests of a pair are answered by their units, and the units' pair is one of the three laws. -/
theorem shiftPairsRoundTrip : Obligations.ShiftPairsRoundTrip := by
  intro s t u v n c c' h1 h31
  refine ⟨fun h h' => ?ror, fun h h' => ?leftRight, fun h h' => ?rightLeft⟩
  case ror =>
    have hsub : (32 - n).toNat = 32 - n.toNat := by
      rw [BitVec.toNat_sub_of_le (BitVec.le_def.mpr (by simp; omega))]
      rfl
    have h1' : 1 ≤ (32 - n).toNat := by omega
    have h31' : (32 - n).toNat ≤ 31 := by omega
    cases (exec_applyShift_unit (k := .ror) (by decide) h1 h31 v c s).symm.trans h
    cases (exec_applyShift_unit (k := .ror) (by decide) h1' h31' _ c' _).symm.trans h'
    refine ⟨rfl, ?_⟩
    rw [driveResult_result, driveResult_result, hsub]
    exact ror32_ror32 v h1 h31
  case leftRight =>
    cases (exec_applyShift_unit (k := .lsl) (by decide) h1 h31 v c s).symm.trans h
    cases (exec_applyShift_unit (k := .lsr) (by decide) h1 (by simp only [maxAmount]; omega) _ c' _).symm.trans h'
    have hnumber := toNat_shiftLeft_ushiftRight v h31
    exact ⟨rfl, hnumber, fun hlt => BitVec.eq_of_toNat_eq (hnumber.trans (Nat.mod_eq_of_lt hlt))⟩
  case rightLeft =>
    cases (exec_applyShift_unit (k := .lsr) (by decide) h1 (by simp only [maxAmount]; omega) v c s).symm.trans h
    cases (exec_applyShift_unit (k := .lsl) (by decide) h1 h31 _ c' _).symm.trans h'
    have hnumber := toNat_ushiftRight_shiftLeft v n.toNat
    exact ⟨rfl, hnumber, fun hzero => BitVec.eq_of_toNat_eq (hnumber.trans (by rw [hzero, Nat.sub_zero]))⟩

/-! ### The ring of RRX -/

/-- An encoded request is answered as its instruction, once it is presented (R181). -/
theorem ask_eq {i : Instr} (hi : i.wf = true) (s : State) : ask i s = exec i (s.present (encode i)) :=
  step_present_encode hi s

/-- Bit `i` of the 33-bit ring `carry :: value` that RRX turns (R101). -/
def ringBit (v : Word32) (c : Carry) (i : Nat) : Bool := if i = 32 then c else v.getLsbD i

/-- RRX brings each bit of the ring one place down, and the lowest to the carry (R101). -/
theorem ringBit_unitRrx (v : Word32) (c : Carry) {i : Nat} (hi : i < 33) :
    ringBit (unitRrx v c).1 (unitRrx v c).2 i = ringBit v c ((i + 1) % 33) := by
  obtain rfl | rfl | hlt : i = 32 ∨ i = 31 ∨ i < 31 := by omega
  · rfl
  · exact getLsbD_unitRrx v c 31 (by decide)
  · have hmod : (i + 1) % 33 = i + 1 := by omega
    have hne : i ≠ 32 ∧ i + 1 ≠ 32 ∧ i ≠ 31 := by omega
    simp only [ringBit, hmod, hne, if_false]
    exact (getLsbD_unitRrx v c i (by omega)).trans (if_neg hne.2.2)

/-- An RRX request by 1 puts the unit's result and carry on the ports (R101). -/
theorem ask_rrx (v : Word32) (c : Carry) (s : State) :
    ∃ t, ask (.applyShiftWithCarry v 0b100 1 c) s = .next t ∧ t.out.result = (unitRrx v c).1 ∧
      t.out.carryOut = (unitRrx v c).2 :=
  ⟨_, ask_eq rfl s, rfl, rfl⟩

/-- `n` RRX requests in a row turn the ring by `n` places. -/
theorem ringBit_askRrxAgain (n : Nat) (s : State) :
    ∃ t, askRrxAgain n s = .next t ∧
      ∀ i < 33, ringBit t.out.result t.out.carryOut i = ringBit s.out.result s.out.carryOut ((i + n) % 33) := by
  induction n generalizing s with
  | zero => exact ⟨s, rfl, fun i hi => by rw [Nat.add_zero, Nat.mod_eq_of_lt hi]⟩
  | succ n ih =>
    obtain ⟨t, ht, hresult, hcarry⟩ := ask_rrx s.out.result s.out.carryOut s
    obtain ⟨u, hu, hring⟩ := ih t
    refine ⟨u, by simp only [askRrxAgain, ht, hu], fun i hi => ?_⟩
    rw [hring i hi, hresult, hcarry, ringBit_unitRrx _ _ (Nat.mod_lt _ (by decide))]
    congr 1
    omega

/-- Settles O36: 33 places are the whole ring. -/
theorem thirtyThreeRrxRestore : Obligations.ThirtyThreeRrxRestore := by
  intro s
  obtain ⟨t, ht, hring⟩ := ringBit_askRrxAgain 33 s
  have hsame : ∀ i < 33, ringBit t.out.result t.out.carryOut i = ringBit s.out.result s.out.carryOut i := fun i hi => by
    rw [hring i hi, Nat.add_mod_right, Nat.mod_eq_of_lt hi]
  refine ⟨t, ht, BitVec.eq_of_getLsbD_eq fun j hj => ?_, hsame 32 (by decide)⟩
  simpa only [ringBit, hj.ne, if_false] using hsame j (by omega)

/-! ### The shift of a double word -/

/-- RRX as a number (R101). -/
theorem toNat_unitRrx (v : Word32) (c : Carry) : (unitRrx v c).1.toNat = c.toNat * 2 ^ 31 + v.toNat / 2 := by
  have hlow : (v.extractLsb' 1 31).toNat = v.toNat / 2 := toNat_extractLsb'_top v rfl
  have hlt : (v.extractLsb' 1 31).toNat < 2 ^ 31 := BitVec.isLt _
  rw [unitRrx, BitVec.toNat_append, ← Nat.shiftLeft_add_eq_or_of_lt hlt, hlow, BitVec.toNat_ofBool, Nat.shiftLeft_eq]

/-- Settles O37: the bit that LSR shifts out of the high word is the one RRX shifts into the low word. -/
theorem lsrThenRrxShiftsADoubleWord : Obligations.LsrThenRrxShiftsADoubleWord := by
  intro s t u hi lo c h h'
  rw [step_present_encode rfl] at h h'
  cases h
  cases h'
  refine ⟨?_, rfl⟩
  change (hi >>> 1).toNat * 2 ^ 32 + (unitRrx lo (hi.getLsbD 0)).1.toNat = _
  have hbit : (hi.getLsbD 0).toNat = hi.toNat % 2 := by
    rw [BitVec.getLsbD, Nat.toNat_testBit, Nat.pow_zero, Nat.div_one]
  rw [toNat_unitRrx, hbit, BitVec.toNat_ushiftRight, Nat.shiftRight_eq_div_pow]
  omega

end Sys2Proof.Machine
end

section
/-! PROOFS. The Immediate Expander (42_immediate_expander.md): the carries of the rotated forms, the closed form of
encoding B, the rows of IMM12_A and IMM12_B, where the carry input is read (10_state.md section 2), and the obligations
O26, O35, O39 and O41 to O43. -/

namespace Sys2Proof.Machine

/-- A success of which more is known is one of which less is known. -/
theorem Succeeds.imp {i : Instr} {s : State} {P Q : Response → Prop} (h : Succeeds i s P) (hPQ : ∀ o, P o → Q o) :
    Succeeds i s Q := by
  obtain ⟨t, ht, herr, hcause, hP⟩ := h
  exact ⟨t, ht, herr, hcause, hPQ _ hP⟩

/-! ### The carry of encoding A -/

/-- Settles O39: bit 31 of the rotated byte is bit `2 * selector - 1` of it, which is in the byte up to selector 4. -/
theorem expandImmediateACarryNeedsASmallSelector : Obligations.ExpandImmediateACarryNeedsASmallSelector := by
  intro s f c hlow hhigh
  obtain ⟨-, hrotated, -⟩ := expandImmediateARotatesByTwiceTheSelector s f c
  refine (hrotated hlow hhigh).imp fun o ⟨hbits, hcarry⟩ => ?_
  have hmod : (31 + 2 * (f.toNat / 256)) % 32 = 2 * (f.toNat / 256) - 1 := by omega
  have hsmall : 2 * (f.toNat / 256) - 1 < 8 ↔ f.toNat / 256 ≤ 4 := by omega
  rw [hcarry, hbits 31 (by decide), hmod, decide_eq_decide.mpr hsmall]

/-! ### The closed form of encoding B -/

/-- The rotated byte of encoding B never wraps: its number, and its bit 31, which only a rotation by 8 sets (R117). -/
theorem rotatedImmediate_unrotated {low7 r : Nat} (hlow7 : low7 < 128) (h8 : 8 ≤ r) (h31 : r ≤ 31) :
    (rotatedImmediate (unrotated low7) r).1.toNat = (128 + low7) * 2 ^ (32 - r) ∧
      ((rotatedImmediate (unrotated low7) r).2 = true ↔ r = 8) := by
  obtain ⟨hresult, hcarry⟩ := rotatedImmediate_spec (unrotated low7) r
  have hbyte : (unrotated low7).toNat = 128 + low7 := by
    have h := toNat_unrotated (BitVec.ofNat 7 low7)
    rwa [BitVec.toNat_ofNat, Nat.mod_eq_of_lt hlow7] at h
  constructor
  · have hlt : (unrotated low7).toNat < 2 ^ r :=
      calc (unrotated low7).toNat < 2 ^ 8 := by omega
        _ ≤ 2 ^ r := Nat.pow_le_pow_right (by decide) h8
    rw [hresult, toNat_ror32_of_lt _ _ (by omega) (by omega) hlt, hbyte]
  · have hmod : (31 + r) % 32 = r - 1 := by omega
    rw [hcarry, getLsbD_ror32 _ _ _ (by omega) (by decide), hmod, BitVec.getLsbD, hbyte]
    obtain rfl | hgt : r = 8 ∨ 8 < r := by omega
    · have hbit : (128 + low7).testBit 7 = true := by
        rw [Nat.testBit_eq_decide_div_mod_eq]
        simp
        omega
      simp [hbit]
    · have hlt : 128 + low7 < 2 ^ (r - 1) :=
        calc 128 + low7 < 2 ^ 8 := by omega
          _ ≤ 2 ^ (r - 1) := Nat.pow_le_pow_right (by decide) (by omega)
      simp [Nat.testBit_lt_two_pow hlt, hgt.ne']

/-- Settles O41: the closed form of the rotated byte, and bit 7 of the byte, which is always 1, on its place. -/
theorem expandImmediateBClosedForm : Obligations.ExpandImmediateBClosedForm := by
  intro s f c hlow hhigh
  obtain ⟨hnumber, hcarry⟩ := rotatedImmediate_unrotated (low7 := f.toNat % 128) (r := f.toNat / 128)
    (by omega) (by omega) (by omega)
  refine succeeds_of_answer ⟨rfl, rfl⟩ (exec_expandImmediateB f c s) (expandImmediateB_of_ge hlow hhigh c) ?_
  refine ⟨hnumber, ?top, hcarry, hcarry.trans (by omega), ?least⟩
  case top =>
    have hmod : (39 - f.toNat / 128 + f.toNat / 128) % 32 = 7 := by omega
    change (ror32 _ _).getLsbD _ = true
    rw [getLsbD_ror32 _ _ _ (by omega) (by omega), hmod]
    exact getLsbD_unrotated_mod f 7 (by decide)
  case least =>
    have hpow : 2 ^ 1 ≤ 2 ^ (32 - f.toNat / 128) := Nat.pow_le_pow_right (by decide) (by omega)
    calc 0x100 = 128 * 2 ^ 1 := rfl
      _ ≤ (128 + f.toNat % 128) * 2 ^ (32 - f.toNat / 128) := Nat.mul_le_mul (by omega) hpow
      _ = _ := hnumber.symm

/-! ### The rows of the field patterns -/

/-- A byte fits in a word. -/
theorem toNat_zext32_byte (b : BitVec 8) : (zext32 b.toNat).toNat = b.toNat := by
  rw [zext32, BitVec.ofNat_toNat, BitVec.toNat_setWidth_of_le (by decide)]

/-- Settles O42: the byte itself, or the byte rotated bit by bit. -/
theorem encodingARowsAnswer : Obligations.EncodingARowsAnswer := by
  intro s sel imm c
  refine ⟨⟨_, rfl, rfl, rfl, toNat_zext32_byte imm, rfl⟩, fun _ => ?_⟩
  refine succeeds_of_rotatedImmediate (r := .ok _) rfl rfl (by omega) fun j hj => ?_
  rw [getLsbD_zext32 _ j hj, BitVec.testBit_toNat]

/-- Settles O43: the replicated bytes as products, and the rotated byte by its closed form. -/
theorem encodingBRowsAnswer : Obligations.EncodingBRowsAnswer := by
  intro s b r low7 c
  obtain ⟨heven, hodd, hall⟩ := toNat_replicate b
  have hrotated (h8 : 8 ≤ r.toNat) := rotatedImmediate_unrotated low7.isLt h8 (by omega)
  refine ⟨⟨_, rfl, rfl, rfl, toNat_zext32_byte b, rfl⟩, ⟨_, rfl, rfl, rfl, heven, rfl⟩, ⟨_, rfl, rfl, rfl, hodd, rfl⟩,
    ⟨_, rfl, rfl, rfl, hall, rfl⟩, fun hrow => ⟨_, rfl, rfl, rfl, hrotated (by omega)⟩, fun hrow => ?_, fun hrow => ?_⟩
  all_goals
    obtain ⟨hnumber, hcarry⟩ := hrotated (by omega)
    exact ⟨_, rfl, rfl, rfl, hnumber, Bool.eq_false_iff.mpr fun h => absurd (hcarry.mp h) (by omega)⟩

/-! ### The carry of the expanders beside the carry of the ROR unit -/

/-- Settles O35: bit 31 of a byte is 0, and the rotated forms read bit 31 of their result. -/
theorem expandersDoNotUseTheRorCarry : Obligations.ExpandersDoNotUseTheRorCarry := by
  refine ⟨fun s b n c h1 h31 => ?unit, fun s f c hhigh => ⟨fun hlow => ?formA, fun hlow => ?formB⟩⟩
  case unit =>
    have hror := rorRotatesAndKeepsTheOldTopBitAsCarry s (BitVec.ofNat 32 b.toNat) n c h1 h31 _ List.mem_cons_self
    refine hror.imp fun o ⟨_, hcarry⟩ => ?_
    rw [hcarry, BitVec.ofNat_toNat, BitVec.getLsbD_setWidth, BitVec.getLsbD_of_ge b 31 (by decide), Bool.and_false]
  case formA =>
    obtain ⟨-, hrotated, -⟩ := expandImmediateARotatesByTwiceTheSelector s f c
    exact (hrotated hlow hhigh).imp fun _ ⟨_, hcarry⟩ => hcarry
  case formB =>
    obtain ⟨-, hrotated, -⟩ := expandImmediateBReplicatesOrRotates s f c
    exact (hrotated hlow hhigh).imp fun _ ⟨_, hcarry⟩ => hcarry

/-! ### Where the carry input is read -/

theorem applyShift_carry_irrelevant {code : BitVec 3} (hcode : code ≠ 0b100) (v : Word32) (n : Nat) (c c' : Carry) :
    applyShift v code n c = applyShift v code n c' := by
  cases hk : kindOfCode code with
  | none => rw [applyShift, applyShift, applyShiftCode_of_none hk, applyShiftCode_of_none hk]
  | some k =>
    obtain rfl := eq_kindCode_of_kindOfCode hk
    have hne : k ≠ .rrx := fun h => hcode (congrArg kindCode h)
    rw [applyShift, applyShift, applyShiftCode_kindCode, applyShiftCode_kindCode]
    by_cases hn : n = 0
    · subst hn
      rw [applyShiftWithCarry_zero hne, applyShiftWithCarry_zero hne]
    · rw [applyShiftWithCarry_carry_irrelevant hne hn v c c']

theorem expandImmediateA_carry_irrelevant {f : Nat} (hlow : 256 ≤ f) (c c' : Carry) :
    expandImmediateA f c = expandImmediateA f c' := by
  by_cases hhigh : f ≤ 4095
  · rw [expandImmediateA_of_ge hlow hhigh, expandImmediateA_of_ge hlow hhigh]
  · rw [expandImmediateA_fieldRange (by omega), expandImmediateA_fieldRange (by omega)]

theorem expandImmediateB_carry_irrelevant {f : Nat} (hlow : 1024 ≤ f) (c c' : Carry) :
    expandImmediateB f c = expandImmediateB f c' := by
  by_cases hhigh : f ≤ 4095
  · rw [expandImmediateB_of_ge hlow hhigh, expandImmediateB_of_ge hlow hhigh]
  · rw [expandImmediateB_fieldRange (by omega), expandImmediateB_fieldRange (by omega)]

/-- Two successes whose responses differ in what is known of them are different answers. -/
theorem exec_ne_of_succeeds {i j : Instr} {s : State} {P Q : Response → Prop} (hi : Succeeds i s P)
    (hj : Succeeds j s Q) (hPQ : ∀ o, P o → ¬ Q o) : exec i s ≠ exec j s := by
  obtain ⟨t, ht, -, -, hP⟩ := hi
  obtain ⟨u, hu, -, -, hQ⟩ := hj
  intro he
  cases ht.symm.trans (he.trans hu)
  exact hPQ _ hP hQ

/-- ApplyShift by RRX shows its carry in bit 31 of the result (R101, R102). -/
theorem applyShift_rrx_succeeds (v : Word32) (c : Carry) (s : State) :
    Succeeds (.applyShift v 0b100 1 c) s fun o => o.result.getLsbD 31 = c :=
  ⟨_, rfl, rfl, rfl, getLsbD_unitRrx v c 31 (by decide)⟩

/-- Settles O26: the operations that do not read the carry are equal functions of it, and the others show it on
`carry_out` or, for RRX, in bit 31 of the result. -/
theorem carryInIsReadOnlyWhereTheTableSays : Obligations.CarryInIsReadOnlyWhereTheTableSays := by
  intro s v n f k c c'
  refine ⟨fun hk hn => exec_applyShiftWithCarry_carry_irrelevant hk hn v c c' s, fun hk => ?shift, fun hf => ?formA,
    fun hf => ?formB, fun hc => ⟨fun hk => ?zero, ?rrx, ?shiftRrx, fun hf => ?unrotatedA, fun hf => ?unrotatedB⟩⟩
  case shift => rw [exec_applyShift, exec_applyShift, applyShift_carry_irrelevant hk v n.toNat c c']
  case formA => rw [exec_expandImmediateA, exec_expandImmediateA, expandImmediateA_carry_irrelevant hf c c']
  case formB => rw [exec_expandImmediateB, exec_expandImmediateB, expandImmediateB_carry_irrelevant hf c c']
  case zero =>
    obtain ⟨kind, hkind, rfl⟩ := exists_kind_of_le hk
    have hzero (c : Carry) := succeeds_of_amountZero hkind (exec_applyShiftWithCarry_kindCode kind v 0 c s)
    exact exec_ne_of_succeeds (hzero c) (hzero c') fun o ⟨_, h⟩ ⟨_, h'⟩ => hc (h.symm.trans h')
  case rrx =>
    have hrrx (c : Carry) := (rrxTurnsTheRingByOne s v 1 c _ List.mem_cons_self).1 rfl
    exact exec_ne_of_succeeds (hrrx c) (hrrx c') fun o ⟨h, _⟩ ⟨h', _⟩ => hc (h.symm.trans h')
  case shiftRrx =>
    exact exec_ne_of_succeeds (applyShift_rrx_succeeds v c s) (applyShift_rrx_succeeds v c' s)
      fun o h h' => hc (h.symm.trans h')
  case unrotatedA =>
    have hplain (c : Carry) := (expandImmediateARotatesByTwiceTheSelector s f c).1 hf
    exact exec_ne_of_succeeds (hplain c) (hplain c') fun o ⟨_, h⟩ ⟨_, h'⟩ => hc (h.symm.trans h')
  case unrotatedB =>
    have hplain (c : Carry) := (expandImmediateBReplicatesOrRotates s f c).1 hf
    exact exec_ne_of_succeeds (hplain c) (hplain c') fun o ⟨_, _, _, _, h⟩ ⟨_, _, _, _, h'⟩ => hc (h.symm.trans h')

end Sys2Proof.Machine
end

section
/-! PROOFS. The immediate helpers and ExtractBit (43_immediate_helpers.md, 44_field_helpers.md): their results as
numbers, as combinations of ExtractBits, and the obligations O44, O45, O46 and O48. -/

namespace Sys2Proof.Machine

/-- The gather as a number (R130). -/
theorem toNat_zeroExtendScatteredImmediate12 (w : Word32) :
    (zeroExtendScatteredImmediate12 w).toNat =
      w.toNat / 2 ^ 26 % 2 * 2048 + w.toNat / 2 ^ 12 % 8 * 256 + w.toNat % 256 := by
  rw [zeroExtendScatteredImmediate12, toNat_gatheredImmediate, BitVec.extractLsb'_toNat, BitVec.extractLsb'_toNat,
    toNat_extractLsb'_zero, Nat.shiftRight_eq_div_pow, Nat.shiftRight_eq_div_pow]
  rfl

/-- Settles O44: both are the gathered immediate, the word's fields or the row's own. -/
theorem gatherTakesTheScatteredBits : Obligations.GatherTakesTheScatteredBits := fun _ w i imm3 b =>
  ⟨⟨_, rfl, rfl, rfl, toNat_zeroExtendScatteredImmediate12 w⟩, ⟨_, rfl, rfl, rfl, toNat_gatheredImmediate i imm3 b⟩⟩

/-- The scaled immediate of a word as a number, wherever the field sits (R131). -/
theorem toNat_scaledImmediate7 (lsb : Fin 26) (w : Word32) :
    (scaledImmediate7 lsb w).toNat = w.toNat / 2 ^ lsb.val % 128 * 4 := by
  rw [scaledImmediate7, toNat_scaledImmediate, BitVec.extractLsb'_toNat, Nat.shiftRight_eq_div_pow]

/-- Settles O45: both are the scaled immediate, of the word's field or of the row's own. -/
theorem scaledImmediateIsFourTimesItsField : Obligations.ScaledImmediateIsFourTimesItsField := fun s w imm7 =>
  ⟨⟨_, rfl, rfl, rfl, toNat_scaledImmediate7 s.imm7Lsb w⟩, ⟨_, rfl, rfl, rfl, toNat_scaledImmediate imm7⟩⟩

/-- On its domain ExtractBits answers the slice as a number (R137). -/
theorem toNat_result_of_extractBits {w hi lo : Word32} {s t : State} (hhi : hi.toNat ≤ 31) (hlo : lo.toNat ≤ hi.toNat)
    (h : exec (.extractBits w hi lo) s = .next t) :
    t.out.result.toNat = w.toNat / 2 ^ lo.toNat % 2 ^ (hi.toNat - lo.toNat + 1) := by
  rw [exec_extractBits, extractBits_of_le hhi hlo, answer_ok] at h
  cases h
  exact toNat_ofNat_slice w hi.toNat lo.toNat

/-- A bit, three bits and a byte shifted to their places and or-ed are their sum. -/
theorem toNat_or_shifted {a b c : Word32} (ha : a.toNat < 2) (hb : b.toNat < 8) (hc : c.toNat < 256) :
    ((a <<< 11) ||| (b <<< 8) ||| c).toNat = a.toNat * 2048 + b.toNat * 256 + c.toNat := by
  have hsa : (a <<< 11).toNat = a.toNat <<< 11 := by
    rw [BitVec.toNat_shiftLeft, Nat.mod_eq_of_lt (by rw [Nat.shiftLeft_eq]; omega)]
  have hsb : (b <<< 8).toNat = b.toNat <<< 8 := by
    rw [BitVec.toNat_shiftLeft, Nat.mod_eq_of_lt (by rw [Nat.shiftLeft_eq]; omega)]
  have hbc : b.toNat <<< 8 + c.toNat < 2 ^ 11 := by
    rw [Nat.shiftLeft_eq]
    omega
  rw [BitVec.or_assoc, BitVec.toNat_or, BitVec.toNat_or, hsa, hsb, ← Nat.shiftLeft_add_eq_or_of_lt (i := 8) hc b.toNat,
    ← Nat.shiftLeft_add_eq_or_of_lt hbc a.toNat, Nat.shiftLeft_eq, Nat.shiftLeft_eq, Nat.add_assoc]

/-- Settles O46: each helper and its combination are the same number. -/
theorem helpersAreCombinationsOfExtractBits : Obligations.HelpersAreCombinationsOfExtractBits := by
  intro s a b c d g h w ha hb hc hd hg hh
  have hbit : a.out.result.toNat = w.toNat / 2 ^ 26 % 2 :=
    toNat_result_of_extractBits (hi := 26) (lo := 26) (by decide) (by decide) ha
  have himm3 : b.out.result.toNat = w.toNat / 2 ^ 12 % 8 := toNat_result_of_extractBits (by decide) (by decide) hb
  have hbyte : c.out.result.toNat = w.toNat / 2 ^ 0 % 256 := toNat_result_of_extractBits (by decide) (by decide) hc
  have hlow7 : d.out.result.toNat = w.toNat / 2 ^ 0 % 128 := toNat_result_of_extractBits (by decide) (by decide) hd
  cases hg
  cases hh
  refine ⟨BitVec.eq_of_toNat_eq ?gather, fun hlsb => BitVec.eq_of_toNat_eq ?scaled⟩
  case gather =>
    rw [driveResult_result, toNat_zeroExtendScatteredImmediate12, toNat_or_shifted (by omega) (by omega) (by omega),
      hbit, himm3, hbyte, Nat.pow_zero, Nat.div_one]
  case scaled =>
    have hmul : (d.out.result * 4).toNat = d.out.result.toNat * 4 :=
      (BitVec.toNat_mul _ _).trans (Nat.mod_eq_of_lt (by simp; omega))
    rw [driveResult_result, toNat_scaledImmediate7, hlsb, hmul, hlow7]
    rfl

theorem exec_extractBit (v b : Word32) (s : State) : exec (.extractBit v b) s = exec (.extractBits v b b) s := rfl

/-- Settles O48: ExtractBit is ExtractBits of a range of one bit, whose two cases are its own. -/
theorem extractBitReadsOneBit : Obligations.ExtractBitReadsOneBit := by
  intro s v b
  obtain ⟨hok, hfails⟩ := extractBitsCutsTheRange s v b b
  refine ⟨fun hb => ?_, fun hb => hfails (.inl hb), exec_extractBit v b s⟩
  obtain ⟨t, ht, herr, hcause, -, hnumber⟩ := hok hb le_rfl
  refine ⟨t, (exec_extractBit v b s).trans ht, herr, hcause, BitVec.eq_of_toNat_eq ?_⟩
  rw [hnumber, Nat.sub_self, Nat.zero_add, Nat.pow_one, ← Nat.toNat_testBit, BitVec.testBit_toNat]
  cases v.getLsbD b.toNat <;> rfl

end Sys2Proof.Machine
end

section
/-! PROOFS. The caller's sequences (45_pipeline_compositions.md): each ends as one answer of its derived function, the
written-out tables of the two shifts, and the obligations O50 to O53. -/

namespace Sys2Proof.Machine

/-! ### A sequence of two requests as one answer -/

/-- A sequence ends as the operation outcome `r` would be answered: with its result and carry, or with its failure. -/
def EndsWith (o : StepOutcome) (r : Except Cause (Word32 × Carry)) : Prop :=
  ∃ t, o = answer State.driveResultCarry r t

/-- What the ports show after a sequence, by the cases of its outcome. -/
theorem EndsWith.ports {o : StepOutcome} {r : Except Cause (Word32 × Carry)} (h : EndsWith o r) :
    ∃ t, o = .next t ∧
      (∀ rc, r = .ok rc → t.out.err = false ∧ t.out.errCause = 0 ∧ t.out.result = rc.1 ∧ t.out.carryOut = rc.2) ∧
      ∀ e, r = .error e → t.out.err = true ∧ t.out.errCause = causeCode e := by
  obtain ⟨s, rfl⟩ := h
  cases r with
  | ok rc =>
    refine ⟨_, rfl, fun rc' h => ?_, nofun⟩
    cases h
    exact ⟨rfl, rfl, rfl, rfl⟩
  | error e =>
    refine ⟨_, rfl, nofun, fun e' h => ?_⟩
    cases h
    exact ⟨rfl, rfl⟩

/-- A request to the applier on a kind's code ends as the applier on the kind (R95). -/
theorem endsWith_ask_applier (v : Word32) (k : ShiftKind) (n : Word32) (c : Carry) (s : State) :
    EndsWith (ask (.applyShiftWithCarry v (kindCode k) n c) s) (applyShiftWithCarry v k n.toNat c) :=
  ⟨_, (ask_eq rfl s).trans (exec_applyShiftWithCarry_kindCode k v n c _)⟩

/-- A sequence whose first request fails ends with that failure (R153). -/
theorem endsWith_thenAsk_error {o : StepOutcome} {s : State} {e : Cause} (next : Response → Instr)
    (ho : o = .next (s.raiseInvalid e)) : EndsWith (thenAsk o next) (.error e) := by
  subst ho
  exact ⟨s, thenAsk_next_err next rfl⟩

/-- The decoder's kind and amount are the applier's operands, and its failure is the sequence's (R148). -/
theorem endsWith_askShiftByImmediate (v tc i5 : Word32) (c : Carry) (s : State) :
    EndsWith (askShiftByImmediate v tc i5 c s) (shiftByImmediate v tc.toNat i5.toNat c) := by
  have hask : ask (.decodeImmShift tc i5) s = _ := (ask_eq rfl s).trans (exec_decodeImmShift tc i5 _)
  unfold askShiftByImmediate shiftByImmediate
  cases hr : decodeImmShift tc.toNat i5.toNat with
  | error e => exact endsWith_thenAsk_error _ (hask.trans (by rw [hr, answer_error]))
  | ok op =>
    obtain ⟨-, hi5, rfl⟩ := decodeImmShift_ok hr
    rw [hask, hr, answer_ok, thenAsk_next_ok _ (by rfl), driveKindAmount_kindOut, driveKindAmount_amountOut]
    have happlier := endsWith_ask_applier v (shiftOperandOf tc.toNat i5.toNat).1
      (BitVec.ofNat 32 (shiftOperandOf tc.toNat i5.toNat).2) c
    rw [toNat_ofNat_amount (shiftOperandOf_amount_le hi5)] at happlier
    exact happlier _

/-- The decoder's kind and the caller's amount are the applier's operands (R150). -/
theorem endsWith_askShiftByRegister (v tc n : Word32) (c : Carry) (s : State) :
    EndsWith (askShiftByRegister v tc n c s) (shiftByRegister v tc.toNat n.toNat c) := by
  have hask : ask (.decodeRegShift tc) s = _ := (ask_eq rfl s).trans (exec_decodeRegShift tc _)
  unfold askShiftByRegister shiftByRegister
  cases hr : decodeRegShift tc.toNat with
  | error e => exact endsWith_thenAsk_error _ (hask.trans (by rw [hr, answer_error]))
  | ok k =>
    rw [hask, hr, answer_ok, thenAsk_next_ok _ (by rfl), driveKind_kindOut]
    exact endsWith_ask_applier v k n c _

/-- The gathered word is the expander's field (R151). -/
theorem endsWith_askExpandScatteredImmediateB (w : Word32) (c : Carry) (s : State) :
    EndsWith (askExpandScatteredImmediateB w c s) (expandScatteredImmediateB w c) :=
  ⟨_, rfl⟩

/-- Settles O53: each sequence ends as its function's outcome, a result or a failure. -/
theorem sequencesRefineTheirFunctions : Obligations.SequencesRefineTheirFunctions := by
  intro s v a b c
  have hends : ∀ p ∈ [(askShiftByImmediate v a b c s, shiftByImmediate v a.toNat b.toNat c),
      (askShiftByRegister v a b c s, shiftByRegister v a.toNat b.toNat c),
      (askExpandScatteredImmediateB v c s, expandScatteredImmediateB v c)], EndsWith p.1 p.2 := by
    simp only [List.forall_mem_cons]
    exact ⟨endsWith_askShiftByImmediate v a b c s, endsWith_askShiftByRegister v a b c s,
      endsWith_askExpandScatteredImmediateB v c s, by simp⟩
  rintro ⟨o, r⟩ hp
  obtain ⟨t, ht, hok, herror⟩ := (hends _ hp).ports
  cases r with
  | ok rc => exact ⟨t, ht, hok rc rfl⟩
  | error e => exact ⟨t, ht, herror e rfl⟩

/-! ### The applier's rows, as the tables write them -/

/-- Shifted by its whole width, a word is 32 copies of its sign. -/
theorem sshiftRight_width (v : Word32) : v.sshiftRight 32 = if v.getLsbD 31 then 0xFFFFFFFF else 0 := by
  apply BitVec.eq_of_getLsbD_eq
  intro j hj
  rw [← unitAsr_eq_sshiftRight v 32 le_rfl, getLsbD_unitAsr v 32 j le_rfl hj, if_neg (by omega)]
  cases v.getLsbD 31 <;> revert j <;> decide

section Rows
variable {v : Word32} {n : Nat} {c : Carry}

theorem applyShiftWithCarry_lsl (h1 : n ≠ 0) (h31 : n ≤ 31) :
    applyShiftWithCarry v .lsl n c = .ok (v <<< n, v.getLsbD (32 - n)) :=
  applyShiftWithCarry_unit (by decide) h1 h31

theorem applyShiftWithCarry_lsr (h1 : n ≠ 0) (h32 : n ≤ 32) :
    applyShiftWithCarry v .lsr n c = .ok (v >>> n, v.getLsbD (n - 1)) :=
  applyShiftWithCarry_unit (by decide) h1 h32

theorem applyShiftWithCarry_asr (h1 : n ≠ 0) (h32 : n ≤ 32) :
    applyShiftWithCarry v .asr n c = .ok (v.sshiftRight n, v.getLsbD (n - 1)) := by
  rw [← unitAsr_eq_sshiftRight v n h32]
  exact applyShiftWithCarry_unit (by decide) h1 h32

theorem applyShiftWithCarry_ror (h1 : n ≠ 0) (h31 : n ≤ 31) :
    applyShiftWithCarry v .ror n c = .ok (v.rotateRight n, v.getLsbD 31) := by
  rw [← ror32_eq_rotateRight v n (by omega)]
  exact applyShiftWithCarry_unit (by decide) h1 h31

/-- LSR by 32 clears the word (R98). -/
theorem applyShiftWithCarry_lsr32 : applyShiftWithCarry v .lsr 32 c = .ok (0, v.getLsbD 31) := by
  rw [applyShiftWithCarry_lsr (by decide) (by decide), BitVec.ushiftRight_eq_zero (by decide)]
  rfl

/-- ASR by 32 fills the word with its sign (R99). -/
theorem applyShiftWithCarry_asr32 :
    applyShiftWithCarry v .asr 32 c = .ok (if v.getLsbD 31 then 0xFFFFFFFF else 0, v.getLsbD 31) := by
  rw [applyShiftWithCarry_asr (by decide) (by decide), sshiftRight_width]

end Rows

/-! ### ShiftByImmediate -/

theorem shiftByImmediate_of_operand {tc i5 : Nat} {k : ShiftKind} {n : Nat} (htc : tc ≤ 3) (hi5 : i5 ≤ 31)
    (hop : shiftOperandOf tc i5 = (k, n)) (v : Word32) (c : Carry) :
    shiftByImmediate v tc i5 c = applyShiftWithCarry v k n c := by
  simp only [shiftByImmediate, decodeImmShift_of_le htc hi5, hop]

theorem shiftByImmediate_error {tc i5 : Nat} {e : Cause} (h : decodeImmShift tc i5 = .error e) (v : Word32)
    (c : Carry) : shiftByImmediate v tc i5 c = .error e := by
  simp only [shiftByImmediate, h]

/-- Settles O50: on the domain the sequence ends as the applier on the row's kind and amount, off it at the decoder. -/
theorem shiftByImmediateFollowsItsTable : Obligations.ShiftByImmediateFollowsItsTable := by
  intro s v tc i5 c
  obtain ⟨t, ht, hok, herror⟩ := (endsWith_askShiftByImmediate v tc i5 c s).ports
  refine ⟨t, ht, fun htc hi5 => ?domain,
    fun htc => herror _ (shiftByImmediate_error (decodeImmShift_badShiftType htc _) v c),
    fun htc hi5 => herror _ (shiftByImmediate_error (decodeImmShift_fieldRange htc hi5) v c)⟩
  have hrow {k : ShiftKind} {n : Nat} {rc : Word32 × Carry} (hop : shiftOperandOf tc.toNat i5.toNat = (k, n))
      (hrc : applyShiftWithCarry v k n c = .ok rc) : t.out.result = rc.1 ∧ t.out.carryOut = rc.2 := by
    obtain ⟨-, -, hports⟩ := hok rc ((shiftByImmediate_of_operand htc hi5 hop v c).trans hrc)
    exact hports
  refine ⟨?noFailure, ?lsl0, ?lsl, ?lsr32, ?lsr, ?asr32, ?asr, ?rrx, ?ror⟩
  case noFailure =>
    obtain ⟨rc, hrc⟩ := applyShiftWithCarry_ok_of_decoded (tc := tc.toNat) hi5 v c
    obtain ⟨herr, -⟩ := hok rc ((shiftByImmediate_of_operand htc hi5 rfl v c).trans hrc)
    exact herr
  case lsl0 =>
    rintro rfl rfl
    exact hrow rfl (applyShiftWithCarry_zero (by decide))
  case lsr32 =>
    rintro rfl rfl
    exact hrow rfl applyShiftWithCarry_lsr32
  case asr32 =>
    rintro rfl rfl
    exact hrow rfl applyShiftWithCarry_asr32
  case rrx =>
    rintro rfl rfl
    obtain ⟨hresult, hcarry⟩ := hrow rfl (applyShiftWithCarry_rrx v 1 c)
    exact ⟨hresult ▸ toNat_unitRrx v c, hcarry⟩
  all_goals
    rintro rfl hne
    replace hne : i5.toNat ≠ 0 := BitVec.toNat_ne_iff_ne.mpr hne
  case lsl => exact hrow rfl (applyShiftWithCarry_lsl hne hi5)
  case lsr => exact hrow (congrArg (Prod.mk ShiftKind.lsr) (if_neg hne)) (applyShiftWithCarry_lsr hne (by omega))
  case asr => exact hrow (congrArg (Prod.mk ShiftKind.asr) (if_neg hne)) (applyShiftWithCarry_asr hne (by omega))
  case ror => exact hrow (shiftOperandOf_three_of_ne_zero hne) (applyShiftWithCarry_ror hne hi5)

/-! ### ShiftByRegister -/

theorem shiftByRegister_of_kind {tc : Nat} {k : ShiftKind} (hk : decodeRegShift tc = .ok k) (v : Word32) (n : Nat)
    (c : Carry) : shiftByRegister v tc n c = applyShiftWithCarry v k n c := by
  simp only [shiftByRegister, hk]

theorem shiftByRegister_badShiftType {tc : Nat} (htc : 3 < tc) (v : Word32) (n : Nat) (c : Carry) :
    shiftByRegister v tc n c = .error .badShiftType := by
  simp only [shiftByRegister, decodeRegShift_badShiftType htc]

theorem maxAmount_le (k : ShiftKind) : maxAmount k ≤ 32 := by cases k <;> decide

/-- Settles O51: the sequence ends as the applier on the selector's kind and the caller's amount, or at the decoder. -/
theorem shiftByRegisterFollowsItsTable : Obligations.ShiftByRegisterFollowsItsTable := by
  intro s v tc n c
  obtain ⟨t, ht, hok, herror⟩ := (endsWith_askShiftByRegister v tc n c s).ports
  have hrow {k : ShiftKind} {rc : Word32 × Carry} (hk : decodeRegShift tc.toNat = .ok k)
      (hrc : applyShiftWithCarry v k n.toNat c = .ok rc) :
      t.out.err = false ∧ t.out.result = rc.1 ∧ t.out.carryOut = rc.2 := by
    obtain ⟨herr, -, hports⟩ := hok rc ((shiftByRegister_of_kind hk v n.toNat c).trans hrc)
    exact ⟨herr, hports⟩
  have hrange {k : ShiftKind} (hk : decodeRegShift tc.toNat = .ok k) (hn : maxAmount k < n.toNat) :
      t.out.err = true ∧ t.out.errCause = 4 :=
    herror _ ((shiftByRegister_of_kind hk v n.toNat c).trans (applyShiftWithCarry_range (decodeRegShift_ne_rrx hk) hn))
  refine ⟨t, ht, ?amount0, ?units, ?lsr32, ?asr32, ?above31, ?above32,
    fun htc => herror _ (shiftByRegister_badShiftType htc v n.toNat c)⟩
  case amount0 =>
    rintro htc rfl
    obtain ⟨k, hk, -⟩ := decodeRegShift_of_le htc
    exact hrow hk (applyShiftWithCarry_zero (decodeRegShift_ne_rrx hk))
  case units =>
    intro htc hne h31
    replace hne : n.toNat ≠ 0 := BitVec.toNat_ne_iff_ne.mpr hne
    obtain ⟨k, hk, -⟩ := decodeRegShift_of_le htc
    have hnotRrx := decodeRegShift_ne_rrx hk
    obtain ⟨herr, -⟩ := hrow hk (applyShiftWithCarry_unit hnotRrx hne (le_maxAmount hnotRrx h31))
    refine ⟨herr, ?lsl, ?lsr, ?asr, ?ror⟩
    all_goals rintro rfl
    case lsl => exact (hrow rfl (applyShiftWithCarry_lsl hne h31)).2
    case lsr => exact (hrow rfl (applyShiftWithCarry_lsr hne (by omega))).2
    case asr => exact (hrow rfl (applyShiftWithCarry_asr hne (by omega))).2
    case ror => exact (hrow rfl (applyShiftWithCarry_ror hne h31)).2
  case lsr32 =>
    rintro rfl rfl
    exact hrow rfl applyShiftWithCarry_lsr32
  case asr32 =>
    rintro rfl rfl
    exact hrow rfl applyShiftWithCarry_asr32
  case above31 =>
    rintro (rfl | rfl) hn
    · exact hrange (k := .lsl) rfl (by simp only [maxAmount]; omega)
    · exact hrange (k := .ror) rfl (by simp only [maxAmount]; omega)
  case above32 =>
    intro htc hn
    obtain ⟨k, hk, -⟩ := decodeRegShift_of_le htc
    exact hrange hk ((maxAmount_le k).trans_lt hn)

/-! ### ExpandScatteredImmediateB -/

/-- The expander accepts every field of twelve bits (R116). -/
theorem expandImmediateB_ok_of_le {f : Nat} (h : f ≤ 4095) (c : Carry) : ∃ rc, expandImmediateB f c = .ok rc := by
  by_cases hlt : f < 1024
  · exact ⟨_, expandImmediateB_of_lt hlt c⟩
  · exact ⟨_, expandImmediateB_of_ge (by omega) h c⟩

/-- Settles O52: the gathered bits are twelve, so the expander accepts them. -/
theorem expandScatteredImmediateBNeverFails : Obligations.ExpandScatteredImmediateBNeverFails := by
  intro s w c
  obtain ⟨rc, hrc⟩ := expandImmediateB_ok_of_le (zeroExtendScatteredImmediate12_le w) c
  obtain ⟨t, ht, hok, -⟩ := (endsWith_askExpandScatteredImmediateB w c s).ports
  obtain ⟨herr, hcause, hresult, hcarry⟩ := hok rc hrc
  refine ⟨t, s.driveResultCarry rc, ht, herr, hcause, ?_, hresult, hcarry⟩
  rw [← toNat_zeroExtendScatteredImmediate12, BitVec.ofNat_toNat, BitVec.setWidth_eq, exec_expandImmediateB, hrc,
    answer_ok]

end Sys2Proof.Machine
end
